-- ==== Sys2Proof/Word.lean ====
section
/-! DEFINITION. The words of the block: bytes, times, 16-bit data registers (00_scope.md R12, R13; 10_state.md R36). -/

namespace Sys2Proof

/-- A byte, 0..255 (00_scope.md R12). -/
abbrev Byte := BitVec 8

/-- A time: an unsigned 32-bit number of clock units (00_scope.md R9, R13: `CLOCK_BITS = 32`). -/
abbrev Time := BitVec 32

/-- A signed 16-bit data register in two's complement (00_scope.md R13, 10_state.md R36, R39, R40). -/
abbrev Int16 := BitVec 16

/-- A code: the 1 or 2 bytes that name a query, a command or a response (00_scope.md R7, R16). It is kept as a byte
sequence, because `send_frame` is also offered codes of an illegal length (40_transport.md R132). -/
abbrev Code := List Byte

end Sys2Proof
end

