-- ==== Sys2Proof/Config.lean ====
section
/-! DEFINITION. What is fixed for one machine: the wire constants and sizes (00_scope.md R6, R7), the open parameters
(00_scope.md R9 to R11, R17), the spec's instances of them (30_encoding.md R112, R113), and the free values (93 U8). -/

namespace Sys2Proof

/-- 00_scope.md R6. -/
abbrev stxByte : Byte := 0x02#8
/-- 00_scope.md R6. -/
abbrev etxByte : Byte := 0x03#8
/-- 00_scope.md R6. -/
abbrev enqByte : Byte := 0x05#8
/-- 00_scope.md R6. -/
abbrev ackByte : Byte := 0x06#8
/-- 00_scope.md R6. -/
abbrev nakByte : Byte := 0x15#8

/-- `MAX_CMD_LEN` (00_scope.md R7). -/
abbrev maxCmdLen : Nat := 2
/-- `RX_MAX` (00_scope.md R7). -/
abbrev rxMax : Nat := 7

/-- The operating modes (10_state.md R36). -/
inductive Mode where
  | disabled | auto | dry | cool | heat | fan
deriving DecidableEq, Repr

/-- The fan settings (10_state.md R36). -/
inductive Fan where
  | auto | silent | speed1 | speed2 | speed3 | speed4 | speed5
deriving DecidableEq, Repr

/-- `MODE_ENC`: the wire byte of each mode (30_encoding.md R104). -/
structure ModeBytes where
  disabled : Byte
  auto : Byte
  dry : Byte
  cool : Byte
  heat : Byte
  fan : Byte
deriving DecidableEq, Repr

/-- `FAN_ENC`: the wire byte of each fan setting (30_encoding.md R105). -/
structure FanBytes where
  auto : Byte
  silent : Byte
  speed1 : Byte
  speed2 : Byte
  speed3 : Byte
  speed4 : Byte
  speed5 : Byte
deriving DecidableEq, Repr

/-- The parameters of the step relation (00_scope.md R17): the three intervals (R9), `POOL_MAX` (R7), `DIAG_PRESENT`
(R11) and the code table `CFG` with the host's `QUERY_SET` (R10). -/
structure Config where
  tResponse : Nat
  tTurnaround : Nat
  tError : Nat
  poolMax : Nat
  diagPresent : Bool
  cmdClimate : Code
  cmdSwing : Code
  rcBasic : Code
  rcSwing : Code
  rcTempCombined : Code
  rcVersion : Code
  rcFanMode : Code
  rcTempInside : Code
  rcTempCoil : Code
  rcTempOutside : Code
  rcFanRpm : Code
  rcCompressor : Code
  rcSetpoint : Code
  rcSwingAngle : Code
  qTempCombined : Code
  modeEnc : ModeBytes
  modeDec : List (Byte × Mode)
  fanEnc : FanBytes
  fanDec : List (Byte × Fan)
  querySet : List Code
deriving DecidableEq, Repr

/-- `MODE_ENC` (30_encoding.md R104). -/
def Config.modeByte (c : Config) : Mode → Byte
  | .disabled => c.modeEnc.disabled
  | .auto => c.modeEnc.auto
  | .dry => c.modeEnc.dry
  | .cool => c.modeEnc.cool
  | .heat => c.modeEnc.heat
  | .fan => c.modeEnc.fan

/-- `MODE_DEC` (30_encoding.md R104): the first entry of the table for the byte, if there is one. -/
def Config.modeOfByte (c : Config) (b : Byte) : Option Mode :=
  (c.modeDec.find? (fun e => e.1 == b)).map Prod.snd

/-- `FAN_ENC` (30_encoding.md R105). -/
def Config.fanByte (c : Config) : Fan → Byte
  | .auto => c.fanEnc.auto
  | .silent => c.fanEnc.silent
  | .speed1 => c.fanEnc.speed1
  | .speed2 => c.fanEnc.speed2
  | .speed3 => c.fanEnc.speed3
  | .speed4 => c.fanEnc.speed4
  | .speed5 => c.fanEnc.speed5

/-- `FAN_DEC` (30_encoding.md R105). -/
def Config.fanOfByte (c : Config) (b : Byte) : Option Fan :=
  (c.fanDec.find? (fun e => e.1 == b)).map Prod.snd

/-- The fourteen codes of the decode table, in the order of 30_encoding.md R110. -/
def Config.codes (c : Config) : List Code :=
  [c.rcBasic, c.rcSwing, c.rcTempCombined, c.rcVersion, c.rcFanMode, c.rcTempInside, c.rcTempCoil, c.rcTempOutside,
    c.rcFanRpm, c.rcCompressor, c.rcSetpoint, c.rcSwingAngle, c.cmdClimate, c.cmdSwing]

/-- The precondition of `initialize` (41_scheduler.md R171): (a) every entry has 1 or 2 bytes, (b) the entries are
pairwise distinct, (c) there are at most `POOL_MAX`, (d) none is a command code, (e) none contains `ETX`. -/
def Config.querySetOk (c : Config) (q : List Code) : Bool :=
  q.all (fun e => decide (1 ≤ e.length) && decide (e.length ≤ maxCmdLen)) && decide q.Nodup
    && decide (q.length ≤ c.poolMax)
    && q.all (fun e => !(e == c.cmdClimate) && !(e == c.cmdSwing)) && q.all (fun e => !(e.contains etxByte))

def Mode.all : List Mode := [.disabled, .auto, .dry, .cool, .heat, .fan]

def Fan.all : List Fan := [.auto, .silent, .speed1, .speed2, .speed3, .speed4, .speed5]

/-- A well-formed parameter record (00_scope.md R7, R9, R10; 30_encoding.md R111 (c); 92_eei_decisions.md D17): positive intervals
with `T_ERROR > T_TURNAROUND`, `POOL_MAX >= 1`, fourteen pairwise distinct codes of exactly 2 bytes without `ETX` (log 23), byte
decoders that invert the encoders (which makes the encoders injective), `Q_TEMP_COMBINED = "F9"`, and a legal query set. A run
with any other record is refused (93 U6; log 17). -/
def Config.wf (c : Config) : Bool :=
  decide (0 < c.tResponse) && decide (0 < c.tTurnaround) && decide (c.tTurnaround < c.tError) && decide (1 ≤ c.poolMax)
    && c.codes.all (fun e => decide (e.length = 2) && !(e.contains etxByte)) && decide c.codes.Nodup
    && Mode.all.all (fun m => decide (c.modeOfByte (c.modeByte m) = some m))
    && Fan.all.all (fun f => decide (c.fanOfByte (c.fanByte f) = some f))
    && decide (c.qTempCombined = [0x46#8, 0x39#8])
    && c.querySetOk c.querySet

/-- The instance `CFG_S21` (30_encoding.md R112, R113; from general knowledge, as the rule says) with the illustrative
intervals 250, 50, 200 of 95_test_vectors.md. DESIGN CHOICE (log 7): `POOL_MAX = 16`, diagnostics present, the query set
is the twelve query codes of R112 in the order of its table. -/
def Config.s21 : Config where
  tResponse := 250
  tTurnaround := 50
  tError := 200
  poolMax := 16
  diagPresent := true
  cmdClimate := [0x44#8, 0x31#8]
  cmdSwing := [0x44#8, 0x35#8]
  rcBasic := [0x47#8, 0x31#8]
  rcSwing := [0x47#8, 0x35#8]
  rcTempCombined := [0x47#8, 0x39#8]
  rcVersion := [0x47#8, 0x38#8]
  rcFanMode := [0x53#8, 0x47#8]
  rcTempInside := [0x53#8, 0x48#8]
  rcTempCoil := [0x53#8, 0x49#8]
  rcTempOutside := [0x53#8, 0x61#8]
  rcFanRpm := [0x53#8, 0x4C#8]
  rcCompressor := [0x53#8, 0x64#8]
  rcSetpoint := [0x53#8, 0x43#8]
  rcSwingAngle := [0x53#8, 0x4E#8]
  qTempCombined := [0x46#8, 0x39#8]
  modeEnc := { disabled := 0x30#8, auto := 0x31#8, dry := 0x32#8, cool := 0x33#8, heat := 0x34#8, fan := 0x36#8 }
  modeDec := [(0x30#8, .disabled), (0x31#8, .auto), (0x32#8, .dry), (0x33#8, .cool), (0x34#8, .heat), (0x36#8, .fan)]
  fanEnc := { auto := 0x41#8, silent := 0x42#8, speed1 := 0x33#8, speed2 := 0x34#8, speed3 := 0x35#8, speed4 := 0x36#8,
              speed5 := 0x37#8 }
  fanDec := [(0x41#8, .auto), (0x42#8, .silent), (0x33#8, .speed1), (0x34#8, .speed2), (0x35#8, .speed3),
             (0x36#8, .speed4), (0x37#8, .speed5)]
  querySet := [[0x46#8, 0x31#8], [0x46#8, 0x35#8], [0x46#8, 0x39#8], [0x46#8, 0x38#8], [0x52#8, 0x47#8], [0x52#8, 0x48#8],
               [0x52#8, 0x49#8], [0x52#8, 0x61#8], [0x52#8, 0x4C#8], [0x52#8, 0x64#8], [0x52#8, 0x43#8], [0x52#8, 0x4E#8]]

/-- The instance `CFG_DOC`: `CFG_S21` with `RC_BASIC = "F1"` (30_encoding.md R112). -/
def Config.doc : Config := { Config.s21 with rcBasic := [0x46#8, 0x31#8] }

/-! The free values: what the spec leaves unspecified after `initialize` (10_state.md R46, 93 U8; log 9). None has a body. -/

/-- The value of `ft.t_last` after the `n`th `initialize`. -/
opaque Config.freeTime : Nat → Time
/-- The value of `ft.cool` after the `n`th `initialize`. -/
opaque Config.freeInterval : Nat → Nat
/-- The first byte of `tx_cmd` after the `n`th `initialize`. -/
opaque Config.freeFirstByte : Nat → Byte
/-- The second byte of `tx_cmd` after the `n`th `initialize`, where it has two. -/
opaque Config.freeSecondByte : Nat → Byte
/-- Whether `tx_cmd` has only one byte after the `n`th `initialize`. -/
opaque Config.freeShort : Nat → Bool

end Sys2Proof
end

