-- ==== Sys2Proof/Syntax.lean ====
section
/-! DEFINITION. The operations of the block: one constructor for each row of spec/opcode_table.json, in its order
(00_scope.md R5: an instruction is an operation of the block). -/

namespace Sys2Proof

/-- A payload that is present: exactly 4 bytes (00_scope.md R7 `PAYLOAD_LEN`). -/
structure Payload where
  p0 : Byte
  p1 : Byte
  p2 : Byte
  p3 : Byte
deriving DecidableEq, Repr

/-- The bytes of a payload, `payload[0]` first (20_memory.md R63). -/
def Payload.bytes (p : Payload) : List Byte := [p.p0, p.p1, p.p2, p.p3]

/-- The bytes of a payload that may be absent (30_encoding.md R98). -/
def payloadBytes : Option Payload → List Byte
  | none => []
  | some p => p.bytes

/-- The results (60_exceptions.md R250, in the document's order). -/
inductive Result where
  | busy | idle | ack | nak | error | timeout
deriving DecidableEq, Repr

/-- Which of the two cooldown intervals an exchange ends in: `T_TURNAROUND` or `T_ERROR` (40_transport.md R150). -/
inductive CoolSel where
  | turnaround | error
deriving DecidableEq, Repr

/-- The operations. Each docstring names the row of spec/opcode_table.json. -/
inductive Instr where
  /-- `STX`: the control byte 0x02 arrives (30_encoding.md R90). -/
  | stx
  /-- `ETX`: the control byte 0x03 arrives. -/
  | etx
  /-- `ENQ`: the control byte 0x05 arrives. -/
  | enq
  /-- `ACK`: the control byte 0x06 arrives. -/
  | ack
  /-- `NAK`: the control byte 0x15 arrives. -/
  | nak
  /-- `FRAME.Q1`: a query frame with a 1-byte code (30_encoding.md R92). -/
  | frameQ1 (c : Byte)
  /-- `FRAME.Q2`: a query frame with a 2-byte code (30_encoding.md R92). -/
  | frameQ2 (c d : Byte)
  /-- `FRAME.C1`: a command frame with a 1-byte code (30_encoding.md R93). -/
  | frameC1 (c : Byte) (p : Payload)
  /-- `FRAME.C2`: a command frame with a 2-byte code (30_encoding.md R93). -/
  | frameC2 (c d : Byte) (p : Payload)
  /-- `FRAME.R`: a response frame with the bytes `body` between `STX` and `ETX`, the checksum byte last (30_encoding.md R94). -/
  | frameR (body : List Byte)
  /-- `CHECKSUM` (30_encoding.md R96). -/
  | checksum (body : List Byte)
  /-- `ENCODE_FRAME` (30_encoding.md R98). -/
  | encodeFrame (code : Code) (p : Option Payload)
  /-- `CMD.CLIMATE`: arm 1 (41_scheduler.md R178). -/
  | cmdClimate
  /-- `CMD.SWING`: arm 2 (41_scheduler.md R179). -/
  | cmdSwing
  /-- `QUERY.CONTINUE`: arm 3 (41_scheduler.md R180). -/
  | queryContinue
  /-- `QUERY.START`: arm 4 (41_scheduler.md R181). -/
  | queryStart
  /-- `IDLE.NOTHING`: arm 5 (41_scheduler.md R182). -/
  | idleNothing
  /-- `ACK.ECHO` (40_transport.md R149). -/
  | ackEcho
  /-- `RX.QACK.ACK` (40_transport.md R138). -/
  | rxQackAck
  /-- `RX.QACK.NAK` (40_transport.md R139). -/
  | rxQackNak
  /-- `RX.QACK.OTHER` (40_transport.md R140). -/
  | rxQackOther (b : Byte)
  /-- `RX.CACK.ACK` (40_transport.md R141). -/
  | rxCackAck
  /-- `RX.CACK.NAK` (40_transport.md R142). -/
  | rxCackNak
  /-- `RX.CACK.OTHER` (40_transport.md R143). -/
  | rxCackOther (b : Byte)
  /-- `RX.QSTX.STX` (40_transport.md R144). -/
  | rxQstxStx
  /-- `RX.QSTX.ACK` (40_transport.md R145). -/
  | rxQstxAck
  /-- `RX.QSTX.OTHER` (40_transport.md R146). -/
  | rxQstxOther (b : Byte)
  /-- `RX.QETX.DATA` (40_transport.md R147). -/
  | rxQetxData (b : Byte)
  /-- `RX.QETX.ETX.EMPTY` (40_transport.md R148). -/
  | rxQetxEtxEmpty
  /-- `RX.QETX.ETX.GOOD` (40_transport.md R149). -/
  | rxQetxEtxGood
  /-- `RX.QETX.ETX.BAD` (40_transport.md R151). -/
  | rxQetxEtxBad
  /-- `RX.DISPATCH`: `handle_rx(b)` (40_transport.md R137). -/
  | rxDispatch (b : Byte)
  /-- `RX.NOTCONSUMED` (30_encoding.md R114). -/
  | rxNotConsumed (b : Byte)
  /-- `SEND_FRAME.BUSY` (40_transport.md R130). -/
  | sendFrameBusy (code : Code) (p : Option Payload)
  /-- `SEND_FRAME.OK` (40_transport.md R131). -/
  | sendFrameOk (code : Code) (p : Option Payload)
  /-- `SEND_FRAME.BADLEN` (40_transport.md R132). -/
  | sendFrameBadLen (code : Code) (p : Option Payload)
  /-- `SERVICE.IDLE` (40_transport.md R133). -/
  | serviceIdle
  /-- `SERVICE.COOLDOWN` (40_transport.md R134). -/
  | serviceCooldown
  /-- `SERVICE.RECEIVE` (40_transport.md R135). -/
  | serviceReceive
  /-- `SERVICE.TIMEOUT` (40_transport.md R136). -/
  | serviceTimeout
  /-- `COMPLETE`: `complete(r, T)` (40_transport.md R150). -/
  | complete (r : Result) (t : CoolSel)
  /-- `RSP.BASIC` with the payload `p` (42_decoder.md R214). -/
  | rspBasic (p : List Byte)
  /-- `RSP.SWING` (42_decoder.md R215). -/
  | rspSwing (p : List Byte)
  /-- `RSP.TEMP_COMBINED` (42_decoder.md R216). -/
  | rspTempCombined (p : List Byte)
  /-- `RSP.VERSION` (42_decoder.md R217). -/
  | rspVersion (p : List Byte)
  /-- `RSP.FAN_MODE` (42_decoder.md R218). -/
  | rspFanMode (p : List Byte)
  /-- `RSP.TEMP_INSIDE` (42_decoder.md R219). -/
  | rspTempInside (p : List Byte)
  /-- `RSP.TEMP_COIL` (42_decoder.md R220). -/
  | rspTempCoil (p : List Byte)
  /-- `RSP.TEMP_OUTSIDE` (42_decoder.md R221). -/
  | rspTempOutside (p : List Byte)
  /-- `RSP.FAN_RPM` (42_decoder.md R222). -/
  | rspFanRpm (p : List Byte)
  /-- `RSP.COMPRESSOR` (42_decoder.md R223). -/
  | rspCompressor (p : List Byte)
  /-- `RSP.SETPOINT` (42_decoder.md R224). -/
  | rspSetpoint (p : List Byte)
  /-- `RSP.SWING_ANGLE` (42_decoder.md R225). -/
  | rspSwingAngle (p : List Byte)
  /-- `ECHO.CLIMATE` (42_decoder.md R226). -/
  | echoClimate
  /-- `ECHO.SWING` (42_decoder.md R227). -/
  | echoSwing
  /-- `RSP.UNKNOWN` (42_decoder.md R228). -/
  | rspUnknown (code : Code) (p : List Byte)
  /-- `RSP.SHORT` (42_decoder.md R229). -/
  | rspShort (code : Code) (p : List Byte)
  /-- `PARSE_ACK.BARE` (42_decoder.md R210). -/
  | parseAckBare
  /-- `PARSE_ACK.SPLIT` (42_decoder.md R211). -/
  | parseAckSplit
  /-- `ADVANCE` (42_decoder.md R212). -/
  | advance
  /-- `DISPATCH` (42_decoder.md R213). -/
  | dispatch (code : Code) (p : List Byte)
  /-- `SEND` (41_scheduler.md R183). -/
  | send (code : Code) (p : Option Payload)
  /-- `TX_NEXT` (41_scheduler.md R184). -/
  | txNext
  /-- `HANDLE_NAK.QUERY` (41_scheduler.md R185). -/
  | handleNakQuery
  /-- `HANDLE_NAK.COMMAND` (41_scheduler.md R186). -/
  | handleNakCommand
  /-- `REACT.ERROR` (60_exceptions.md R255). -/
  | reactError
  /-- `REACT.TIMEOUT` (60_exceptions.md R256). -/
  | reactTimeout
  /-- `REACT.BUSY` (60_exceptions.md R257). -/
  | reactBusy
  /-- `initialize` (41_scheduler.md R170). -/
  | hostInit (querySet : List Code)
  /-- `tick` (41_scheduler.md R172). -/
  | tick (now : Time)
  /-- `request_climate_change` (41_scheduler.md R173). -/
  | requestClimateChange (power : Bool) (mode : Mode) (setpoint : Int16) (fan : Fan)
  /-- `request_swing_change` (41_scheduler.md R174). -/
  | requestSwingChange (vertical horizontal : Bool)
  /-- `request_refresh` (41_scheduler.md R175). -/
  | requestRefresh
  /-- `set_diag_mode` (41_scheduler.md R176). -/
  | setDiagMode (b : Bool)
  /-- `is_ready` (41_scheduler.md R177). -/
  | isReady
  /-- `snapshot` (41_scheduler.md R187). -/
  | snapshot
deriving DecidableEq, Repr

end Sys2Proof
end

