-- ==== Sys2Proof/WellFormed.lean ====
section
/-! DEFINITION. Which operations are well formed: the limits the spec's encodings put on the operands, and the one limit of the
model's port encoding (a code's length fits one byte; log 1). The precondition of `initialize` (41_scheduler.md R171) needs the
parameters and is checked by its meaning. -/

namespace Sys2Proof

/-- The length of a code offered to an operation fits the length byte of a port word (log 1). -/
def codeFits (code : Code) : Bool := decide (code.length < 256)

/-- The operands are within the limits the spec's encoding of the row gives them. A response frame has 1 to 7 bytes between `STX` and
`ETX` (30_encoding.md R94), of any value: a peer may mean a frame with a byte 0x03 inside (R116; log 2). -/
def Instr.wf : Instr → Bool
  | .frameR body => decide (1 ≤ body.length) && decide (body.length ≤ rxMax)
  | .encodeFrame code _ => codeFits code
  | .rxQackOther b => !(b == ackByte) && !(b == nakByte)
  | .rxCackOther b => !(b == ackByte) && !(b == nakByte)
  | .rxQstxOther b => !(b == stxByte) && !(b == ackByte)
  | .rxQetxData b => !(b == etxByte)
  | .sendFrameBusy code _ => codeFits code
  | .sendFrameOk code _ => decide (1 ≤ code.length) && decide (code.length ≤ maxCmdLen)
  | .sendFrameBadLen code _ => (decide (code.length = 0) || decide (maxCmdLen < code.length)) && codeFits code
  | .complete r t =>
    (r == .ack && t == .turnaround) || (r == .nak && t == .turnaround) || (r == .error && t == .error)
  | .rspUnknown code _ => codeFits code
  | .rspShort code _ => codeFits code
  | .dispatch code _ => codeFits code
  | .send code _ => codeFits code
  | .hostInit q => q.all codeFits
  | .stx | .etx | .enq | .ack | .nak | .frameQ1 _ | .frameQ2 _ _ | .frameC1 _ _ | .frameC2 _ _ _ | .checksum _
  | .cmdClimate | .cmdSwing | .queryContinue | .queryStart | .idleNothing | .ackEcho | .rxQackAck | .rxQackNak
  | .rxCackAck | .rxCackNak | .rxQstxStx | .rxQstxAck | .rxQetxEtxEmpty | .rxQetxEtxGood | .rxQetxEtxBad
  | .rxDispatch _ | .rxNotConsumed _ | .serviceIdle | .serviceCooldown | .serviceReceive | .serviceTimeout
  | .rspBasic _ | .rspSwing _ | .rspTempCombined _ | .rspVersion _ | .rspFanMode _ | .rspTempInside _ | .rspTempCoil _
  | .rspTempOutside _ | .rspFanRpm _ | .rspCompressor _ | .rspSetpoint _ | .rspSwingAngle _ | .echoClimate | .echoSwing
  | .parseAckBare | .parseAckSplit | .advance | .txNext | .handleNakQuery | .handleNakCommand | .reactError
  | .reactTimeout | .reactBusy | .tick _ | .requestClimateChange _ _ _ _ | .requestSwingChange _ _ | .requestRefresh
  | .setDiagMode _ | .isReady | .snapshot => true

end Sys2Proof
end

