-- ==== Sys2Proof/Decode.lean ====
section
/-! DEFINITION. From bytes to operations and back. The wire patterns are the spec's (30_encoding.md R90 to R98). An operation
without a wire pattern travels on the model's operation port as the byte `0x80 + (its row's number in spec/opcode_table.json,
from 0)` and then its operands (DESIGN CHOICE, log 1). -/

namespace Sys2Proof

/-! ## Checksum and frame encoding -/

/-- `sum8` (00_scope.md R13): the sum of the bytes modulo 256. -/
def sum8 : List Byte → Byte
  | [] => 0
  | b :: t => b + sum8 t

/-- `checksum(body)` (30_encoding.md R96): `sum8`, with `STX` replaced by `ENQ`. -/
def checksum (body : List Byte) : Byte :=
  if sum8 body = stxByte then enqByte else sum8 body

/-- `encode_frame(code, payload?)` (30_encoding.md R91, R98). -/
def encodeFrame (code : Code) (p : Option Payload) : List Byte :=
  [stxByte] ++ (code ++ payloadBytes p) ++ [checksum (code ++ payloadBytes p)] ++ [etxByte]

/-! ## Why a word is not an operation -/

/-- The reasons for which the decoder rejects a word. All are safe: the model stops where the spec knows no operation. -/
inductive DecodeError where
  /-- No byte at all. -/
  | emptyWord
  /-- A byte below 0x80 that is no control byte, or an operation number the table does not have. -/
  | unknownByte
  /-- A word with more or fewer bytes than the operation has. -/
  | badLength
  /-- A frame that does not begin with `STX` or end with `ETX` (30_encoding.md R91). -/
  | badFrame
  /-- A frame of the block whose checksum byte is not `checksum(code ++ payload)` (30_encoding.md R96). -/
  | badChecksum
  /-- An operand byte outside its field's values. -/
  | badOperand
  /-- An operation whose operands are outside the limits of `Instr.wf`. -/
  | illFormed
deriving DecidableEq, Repr

/-! ## Operand fields of the port words (DESIGN CHOICE, log 1) -/

def encBool (b : Bool) : Byte := if b then 1#8 else 0#8

def decBool (b : Byte) : Option Bool := if b = 0#8 then some false else if b = 1#8 then some true else none

/-- Modes in the order of 10_state.md R36. -/
def encMode : Mode → Byte
  | .disabled => 0#8 | .auto => 1#8 | .dry => 2#8 | .cool => 3#8 | .heat => 4#8 | .fan => 5#8

def decMode (b : Byte) : Option Mode :=
  match b.toNat with
  | 0 => some .disabled | 1 => some .auto | 2 => some .dry | 3 => some .cool | 4 => some .heat | 5 => some .fan
  | _ => none

/-- Fan settings in the order of 10_state.md R36. -/
def encFan : Fan → Byte
  | .auto => 0#8 | .silent => 1#8 | .speed1 => 2#8 | .speed2 => 3#8 | .speed3 => 4#8 | .speed4 => 5#8 | .speed5 => 6#8

def decFan (b : Byte) : Option Fan :=
  match b.toNat with
  | 0 => some .auto | 1 => some .silent | 2 => some .speed1 | 3 => some .speed2 | 4 => some .speed3 | 5 => some .speed4
  | 6 => some .speed5
  | _ => none

/-- The numbers of 60_exceptions.md R250. -/
def encResult : Result → Byte
  | .busy => 0#8 | .idle => 1#8 | .ack => 2#8 | .nak => 3#8 | .error => 4#8 | .timeout => 5#8

def decResult (b : Byte) : Option Result :=
  match b.toNat with
  | 0 => some .busy | 1 => some .idle | 2 => some .ack | 3 => some .nak | 4 => some .error | 5 => some .timeout
  | _ => none

def encCoolSel : CoolSel → Byte
  | .turnaround => 0#8 | .error => 1#8

def decCoolSel (b : Byte) : Option CoolSel :=
  if b = 0#8 then some .turnaround else if b = 1#8 then some .error else none

/-- A time, most significant byte first. -/
def encTime (t : Time) : List Byte :=
  [t.extractLsb' 24 8, t.extractLsb' 16 8, t.extractLsb' 8 8, t.extractLsb' 0 8]

def decTime (a b c d : Byte) : Time := a ++ b ++ c ++ d

/-- A 16-bit operand, most significant byte first. -/
def encInt16 (v : Int16) : List Byte := [v.extractLsb' 8 8, v.extractLsb' 0 8]

def decInt16 (a b : Byte) : Int16 := a ++ b

/-- A code: its length in one byte, then its bytes. -/
def encCode (code : Code) : List Byte := BitVec.ofNat 8 code.length :: code

/-- A code and what follows it. -/
def decCode : List Byte → Option (Code × List Byte)
  | [] => none
  | n :: rest => if n.toNat ≤ rest.length then some (rest.take n.toNat, rest.drop n.toNat) else none

def decPayload : List Byte → Option (Option Payload)
  | [] => some none
  | [a, b, c, d] => some (some ⟨a, b, c, d⟩)
  | _ => none

/-- The entries of a query set, each with its length; `fuel` bounds the number of entries. -/
def decCodes : Nat → List Byte → Option (List Code)
  | _, [] => some []
  | 0, _ :: _ => none
  | fuel + 1, w =>
    match decCode w with
    | none => none
    | some (c, rest) => (decCodes fuel rest).map (fun cs => c :: cs)

def encCodes (q : List Code) : List Byte := q.flatMap encCode

/-! ## The link states' numbers (10_state.md R21), which stand before the byte in a receive handler's word -/

def numQueryAck : Byte := 1#8
def numCommandAck : Byte := 2#8
def numQueryStx : Byte := 3#8
def numQueryEtx : Byte := 4#8

/-! ## The encoder -/

/-- The first byte of an operation's port word: `0x80 +` its row's number. -/
def opByte (row : Nat) : Byte := BitVec.ofNat 8 (0x80 + row)

/-- The word of a well-formed operation: the wire bytes where the row has a wire pattern of its own (30_encoding.md R90 to R93),
else the port word of log 1. -/
def encode : Instr → List Byte
  | .stx => [stxByte]
  | .etx => [etxByte]
  | .enq => [enqByte]
  | .ack => [ackByte]
  | .nak => [nakByte]
  | .frameQ1 c => encodeFrame [c] none
  | .frameQ2 c d => encodeFrame [c, d] none
  | .frameC1 c p => encodeFrame [c] (some p)
  | .frameC2 c d p => encodeFrame [c, d] (some p)
  | .frameR body => opByte 9 :: ([stxByte] ++ body ++ [etxByte])
  | .checksum body => opByte 10 :: body
  | .encodeFrame code p => opByte 11 :: (encCode code ++ payloadBytes p)
  | .cmdClimate => [opByte 12]
  | .cmdSwing => [opByte 13]
  | .queryContinue => [opByte 14]
  | .queryStart => [opByte 15]
  | .idleNothing => [opByte 16]
  | .ackEcho => [opByte 17, ackByte]
  | .rxQackAck => [opByte 18, numQueryAck, ackByte]
  | .rxQackNak => [opByte 19, numQueryAck, nakByte]
  | .rxQackOther b => [opByte 20, numQueryAck, b]
  | .rxCackAck => [opByte 21, numCommandAck, ackByte]
  | .rxCackNak => [opByte 22, numCommandAck, nakByte]
  | .rxCackOther b => [opByte 23, numCommandAck, b]
  | .rxQstxStx => [opByte 24, numQueryStx, stxByte]
  | .rxQstxAck => [opByte 25, numQueryStx, ackByte]
  | .rxQstxOther b => [opByte 26, numQueryStx, b]
  | .rxQetxData b => [opByte 27, numQueryEtx, b]
  | .rxQetxEtxEmpty => [opByte 28, numQueryEtx, etxByte]
  | .rxQetxEtxGood => [opByte 29, numQueryEtx, etxByte]
  | .rxQetxEtxBad => [opByte 30, numQueryEtx, etxByte]
  | .rxDispatch b => [opByte 31, b]
  | .rxNotConsumed b => [opByte 32, b]
  | .sendFrameBusy code p => opByte 33 :: (encCode code ++ payloadBytes p)
  | .sendFrameOk code p => opByte 34 :: (encCode code ++ payloadBytes p)
  | .sendFrameBadLen code p => opByte 35 :: (encCode code ++ payloadBytes p)
  | .serviceIdle => [opByte 36]
  | .serviceCooldown => [opByte 37]
  | .serviceReceive => [opByte 38]
  | .serviceTimeout => [opByte 39]
  | .complete r t => [opByte 40, encResult r, encCoolSel t]
  | .rspBasic p => opByte 41 :: p
  | .rspSwing p => opByte 42 :: p
  | .rspTempCombined p => opByte 43 :: p
  | .rspVersion p => opByte 44 :: p
  | .rspFanMode p => opByte 45 :: p
  | .rspTempInside p => opByte 46 :: p
  | .rspTempCoil p => opByte 47 :: p
  | .rspTempOutside p => opByte 48 :: p
  | .rspFanRpm p => opByte 49 :: p
  | .rspCompressor p => opByte 50 :: p
  | .rspSetpoint p => opByte 51 :: p
  | .rspSwingAngle p => opByte 52 :: p
  | .echoClimate => [opByte 53]
  | .echoSwing => [opByte 54]
  | .rspUnknown code p => opByte 55 :: (encCode code ++ p)
  | .rspShort code p => opByte 56 :: (encCode code ++ p)
  | .parseAckBare => [opByte 57]
  | .parseAckSplit => [opByte 58]
  | .advance => [opByte 59]
  | .dispatch code p => opByte 60 :: (encCode code ++ p)
  | .send code p => opByte 61 :: (encCode code ++ payloadBytes p)
  | .txNext => [opByte 62]
  | .handleNakQuery => [opByte 63]
  | .handleNakCommand => [opByte 64]
  | .reactError => [opByte 65]
  | .reactTimeout => [opByte 66]
  | .reactBusy => [opByte 67]
  | .hostInit q => opByte 68 :: encCodes q
  | .tick t => opByte 69 :: encTime t
  | .requestClimateChange pw m sp f => [opByte 70, encBool pw, encMode m] ++ encInt16 sp ++ [encFan f]
  | .requestSwingChange v h => [opByte 71, encBool v, encBool h]
  | .requestRefresh => [opByte 72]
  | .setDiagMode b => [opByte 73, encBool b]
  | .isReady => [opByte 74]
  | .snapshot => [opByte 75]

/-! ## The decoder -/

/-- Accept `v`, or reject with `e`. -/
def orElse (e : DecodeError) : Option Instr → Except DecodeError Instr
  | some i => .ok i
  | none => .error e

/-- An operation without operands. -/
def noOperand (i : Instr) : List Byte → Except DecodeError Instr
  | [] => .ok i
  | _ :: _ => .error .badLength

/-- An operation with one byte. -/
def oneByte (f : Byte → Instr) : List Byte → Except DecodeError Instr
  | [b] => .ok (f b)
  | _ => .error .badLength

/-- A receive handler selected by a link state and a fixed byte. -/
def stateAndFixed (st fixed : Byte) (i : Instr) : List Byte → Except DecodeError Instr
  | [s, b] => if s = st ∧ b = fixed then .ok i else .error .badOperand
  | _ => .error .badLength

/-- A receive handler selected by a link state and a class of bytes. -/
def stateAndByte (st : Byte) (f : Byte → Instr) : List Byte → Except DecodeError Instr
  | [s, b] => if s = st then .ok (f b) else .error .badOperand
  | _ => .error .badLength

/-- An operation over a code and an optional payload. -/
def codeAndPayload (f : Code → Option Payload → Instr) (w : List Byte) : Except DecodeError Instr :=
  match decCode w with
  | none => .error .badLength
  | some (code, rest) =>
    match decPayload rest with
    | none => .error .badLength
    | some p => .ok (f code p)

/-- An operation over a code and the bytes after it. -/
def codeAndBytes (f : Code → List Byte → Instr) (w : List Byte) : Except DecodeError Instr :=
  match decCode w with
  | none => .error .badLength
  | some (code, rest) => .ok (f code rest)

/-- The body of a response frame `STX body ETX` (30_encoding.md R94). -/
def responseFrame : List Byte → Except DecodeError Instr
  | [] => .error .badLength
  | h :: rest =>
    if h = stxByte ∧ rest.getLast? = some etxByte then .ok (.frameR rest.dropLast) else .error .badFrame

def completeWord : List Byte → Except DecodeError Instr
  | [r, t] =>
    match decResult r, decCoolSel t with
    | some r, some t => .ok (.complete r t)
    | _, _ => .error .badOperand
  | _ => .error .badLength

def tickWord : List Byte → Except DecodeError Instr
  | [a, b, c, d] => .ok (.tick (decTime a b c d))
  | _ => .error .badLength

def climateWord : List Byte → Except DecodeError Instr
  | [pw, m, s1, s0, f] =>
    match decBool pw, decMode m, decFan f with
    | some pw, some m, some f => .ok (.requestClimateChange pw m (decInt16 s1 s0) f)
    | _, _, _ => .error .badOperand
  | _ => .error .badLength

def swingWord : List Byte → Except DecodeError Instr
  | [v, h] =>
    match decBool v, decBool h with
    | some v, some h => .ok (.requestSwingChange v h)
    | _, _ => .error .badOperand
  | _ => .error .badLength

def diagWord : List Byte → Except DecodeError Instr
  | [b] => orElse .badOperand ((decBool b).map .setDiagMode)
  | _ => .error .badLength

/-- An operation of the port by its row's number. -/
def parseOp (row : Nat) (w : List Byte) : Except DecodeError Instr :=
  match row with
  | 9 => responseFrame w
  | 10 => .ok (.checksum w)
  | 11 => codeAndPayload .encodeFrame w
  | 12 => noOperand .cmdClimate w
  | 13 => noOperand .cmdSwing w
  | 14 => noOperand .queryContinue w
  | 15 => noOperand .queryStart w
  | 16 => noOperand .idleNothing w
  | 17 =>
    match w with
    | [b] => if b = ackByte then .ok .ackEcho else .error .badOperand
    | _ => .error .badLength
  | 18 => stateAndFixed numQueryAck ackByte .rxQackAck w
  | 19 => stateAndFixed numQueryAck nakByte .rxQackNak w
  | 20 => stateAndByte numQueryAck .rxQackOther w
  | 21 => stateAndFixed numCommandAck ackByte .rxCackAck w
  | 22 => stateAndFixed numCommandAck nakByte .rxCackNak w
  | 23 => stateAndByte numCommandAck .rxCackOther w
  | 24 => stateAndFixed numQueryStx stxByte .rxQstxStx w
  | 25 => stateAndFixed numQueryStx ackByte .rxQstxAck w
  | 26 => stateAndByte numQueryStx .rxQstxOther w
  | 27 => stateAndByte numQueryEtx .rxQetxData w
  | 28 => stateAndFixed numQueryEtx etxByte .rxQetxEtxEmpty w
  | 29 => stateAndFixed numQueryEtx etxByte .rxQetxEtxGood w
  | 30 => stateAndFixed numQueryEtx etxByte .rxQetxEtxBad w
  | 31 => oneByte .rxDispatch w
  | 32 => oneByte .rxNotConsumed w
  | 33 => codeAndPayload .sendFrameBusy w
  | 34 => codeAndPayload .sendFrameOk w
  | 35 => codeAndPayload .sendFrameBadLen w
  | 36 => noOperand .serviceIdle w
  | 37 => noOperand .serviceCooldown w
  | 38 => noOperand .serviceReceive w
  | 39 => noOperand .serviceTimeout w
  | 40 => completeWord w
  | 41 => .ok (.rspBasic w)
  | 42 => .ok (.rspSwing w)
  | 43 => .ok (.rspTempCombined w)
  | 44 => .ok (.rspVersion w)
  | 45 => .ok (.rspFanMode w)
  | 46 => .ok (.rspTempInside w)
  | 47 => .ok (.rspTempCoil w)
  | 48 => .ok (.rspTempOutside w)
  | 49 => .ok (.rspFanRpm w)
  | 50 => .ok (.rspCompressor w)
  | 51 => .ok (.rspSetpoint w)
  | 52 => .ok (.rspSwingAngle w)
  | 53 => noOperand .echoClimate w
  | 54 => noOperand .echoSwing w
  | 55 => codeAndBytes .rspUnknown w
  | 56 => codeAndBytes .rspShort w
  | 57 => noOperand .parseAckBare w
  | 58 => noOperand .parseAckSplit w
  | 59 => noOperand .advance w
  | 60 => codeAndBytes .dispatch w
  | 61 => codeAndPayload .send w
  | 62 => noOperand .txNext w
  | 63 => noOperand .handleNakQuery w
  | 64 => noOperand .handleNakCommand w
  | 65 => noOperand .reactError w
  | 66 => noOperand .reactTimeout w
  | 67 => noOperand .reactBusy w
  | 68 => orElse .badLength ((decCodes w.length w).map .hostInit)
  | 69 => tickWord w
  | 70 => climateWord w
  | 71 => swingWord w
  | 72 => noOperand .requestRefresh w
  | 73 => diagWord w
  | 74 => noOperand .isReady w
  | 75 => noOperand .snapshot w
  | _ => .error .unknownByte

/-- A word of one control byte (30_encoding.md R90). -/
def parseControl (b : Byte) : Except DecodeError Instr :=
  if b = stxByte then .ok .stx
  else if b = etxByte then .ok .etx
  else if b = enqByte then .ok .enq
  else if b = ackByte then .ok .ack
  else if b = nakByte then .ok .nak
  else .error .unknownByte

/-- A frame of the block's: `f` where the last byte is `ETX` and the checksum byte is the expected one (30_encoding.md R91, R96). -/
def frameOf (body : List Byte) (s e : Byte) (i : Instr) : Except DecodeError Instr :=
  if e = etxByte then if s = checksum body then .ok i else .error .badChecksum else .error .badFrame

/-- The bytes after `STX` of one of the four frames the block sends (30_encoding.md R92, R93). -/
def parseFrame : List Byte → Except DecodeError Instr
  | [c, s, e] => frameOf [c] s e (.frameQ1 c)
  | [c, d, s, e] => frameOf [c, d] s e (.frameQ2 c d)
  | [c, p, q, r, t, s, e] => frameOf [c, p, q, r, t] s e (.frameC1 c ⟨p, q, r, t⟩)
  | [c, d, p, q, r, t, s, e] => frameOf [c, d, p, q, r, t] s e (.frameC2 c d ⟨p, q, r, t⟩)
  | _ => .error .badLength

/-- The operation a word stands for, before the check of its operands' limits. -/
def parse : List Byte → Except DecodeError Instr
  | [] => .error .emptyWord
  | h :: rest =>
    if h.toNat < 0x80 then
      match rest with
      | [] => parseControl h
      | _ :: _ => if h = stxByte then parseFrame rest else .error .unknownByte
    else parseOp (h.toNat - 0x80) rest

/-- The decoder: total on any bytes, rejecting by name. What it accepts is well formed. -/
def decode (w : List Byte) : Except DecodeError Instr :=
  match parse w with
  | .error e => .error e
  | .ok i => if i.wf then .ok i else .error .illFormed

/-! ## The opcode table's numbering -/

/-- The `n` low bytes of `w`, most significant first: 30_encoding.md R91 puts the frame's first byte first, and
spec/opcode_table.json numbers it as the highest bits (its `FRAME.Q1`: `STX` in bits 31..24). -/
def bytesOfNat : Nat → Nat → List Byte
  | 0, _ => []
  | n + 1, w => BitVec.ofNat 8 (w / 256 ^ n) :: bytesOfNat n w

/-- The word of an opcode-table row whose bits are `w`. The one-byte patterns come with a field at bit 8 that the table's reader
made from "width_bits: 8", which is no bit of the pattern: a pattern of at most 16 bits is its low byte (log 3). -/
def tableWord (nbits w : Nat) : List Byte :=
  if nbits ≤ 16 then bytesOfNat 1 w else bytesOfNat ((nbits + 7) / 8) w

/-- The operation the decoder reads from an opcode-table row's bits. -/
def decodeTableWord (nbits w : Nat) : Option Instr :=
  match decode (tableWord nbits w) with
  | .ok i => some i
  | .error _ => none

end Sys2Proof
end

