-- ==== Sys2Proof/Machine/State.lean ====
section
/-! DEFINITION. The state of the block as plain data (10_state.md R20 to R46), what a run presents to it, why a step can stop, and
the state after reset. -/

namespace Sys2Proof.Machine

/-- The link states (10_state.md R21). -/
inductive CommState where
  | idle | queryAck | commandAck | queryStx | queryEtx | cooldown
deriving DecidableEq, Repr

/-- ClimateState (10_state.md R36). -/
structure Climate where
  powerOn : Bool
  mode : Mode
  setpoint : Int16
  fan : Fan
  swingV : Bool
  swingH : Bool
deriving DecidableEq, Repr

/-- The readiness bitset over Basic, Swing, Compressor (10_state.md R34). -/
structure Ready where
  basic : Bool
  swing : Bool
  compressor : Bool
deriving DecidableEq, Repr

/-- What `snapshot` returns (41_scheduler.md R187). -/
structure Snapshot where
  active : Climate
  tempInside : Int16
  tempOutside : Int16
  tempCoil : Int16
  fanRpm : Int16
  compressorHz : Int16
  swingVerticalAngle : Int16
  supportRH : Bool
  supportRa : Bool
  supportRG : Bool
  ready : Ready
deriving DecidableEq, Repr

/-- The events of the report port (60_exceptions.md R268, R270). -/
inductive Event where
  | tickResult (r : Result)
  | logUnknown (code : Code) (payload : List Byte) (hint : Option Int)
  | logChanged (code : Code) (old : Option (List Byte)) (new : List Byte)
deriving DecidableEq, Repr

/-- What an operation returns to its caller (log 18): nothing, a `Result`, `Continue` (40_transport.md R137), the boolean of
`is_ready`, the record of `snapshot`, the byte of `checksum`, the bytes of `encode_frame`. -/
inductive Ret where
  | nothing
  | result (r : Result)
  | goOn
  | bool (b : Bool)
  | snap (x : Snapshot)
  | byte (b : Byte)
  | bytes (bs : List Byte)
deriving DecidableEq, Repr

/-- What is presented to the block next (00_scope.md R17, 60_exceptions.md R271; logs 4, 5). -/
inductive Input where
  /-- A word on the host operation port, which has the eight host operations and no other (60_exceptions.md R266, R271). -/
  | call (w : List Byte)
  /-- A byte on the receive port. -/
  | rxByte (b : Byte)
  /-- The model's own access to one row of spec/opcode_table.json, which no port of the hardware has (log 5). -/
  | row (w : List Byte)
deriving DecidableEq, Repr

/-- The state. The fields from `ftState` to `diffCache` are the block's (10_state.md R20), `report` is its report port, and
`ret`, `inputs`, `cfg`, `freeCount` are the model's own (logs 18, 4, 7, 9). -/
structure State where
  ftState : CommState
  ftBuf : List Byte
  ftTLast : Time
  ftCool : Nat
  rx : List Byte
  tx : List Byte
  now : Time
  pool : List Code
  cursor : Nat
  txCmd : Code
  activateClimate : Bool
  activateSwingMode : Bool
  refreshRequested : Bool
  supportRH : Bool
  supportRa : Bool
  supportRG : Bool
  ready : Ready
  diagMode : Bool
  active : Climate
  pending : Climate
  tempInside : Int16
  tempOutside : Int16
  tempCoil : Int16
  fanRpm : Int16
  compressorHz : Int16
  swingVerticalAngle : Int16
  diffCache : List (Code × List Byte)
  report : List Event
  ret : Ret
  inputs : List Input
  cfg : Config
  freeCount : Nat
deriving DecidableEq, Repr

/-- Why the machine could stop with a fault: never. "There is no fatal error class in this core" (60_exceptions.md). -/
inductive Fault where
deriving DecidableEq, Repr

/-- Why a step is refused. Every one is safe: the model stops where the spec gives no effect. -/
inductive Refusal where
  /-- An operation that has no meaning yet. Raised by `exec` alone. Safe. -/
  | notModelled (mnemonic : String)
  /-- A word that the decoder rejects. Raised by `fetch`. Safe. -/
  | undecodable (e : DecodeError)
  /-- A word on the host operation port that is none of the eight host operations: "the host has no port to `send_frame`, `service`,
  `ft.state`, `pool` or `pending`" (60_exceptions.md R266; log 5). Raised by `fetch`. Safe. -/
  | noPort
  /-- Parameters that are not well formed: 93 U6 has the model refuse the run (log 17). Raised by `fetch`. Safe. -/
  | parameters
  /-- An operation whose selecting condition does not hold, so that the block does not select it (00_scope.md R5; log 6). Raised by
  the rows of spec/opcode_table.json that have a condition. Safe. -/
  | notSelected
  /-- A query set that violates 41_scheduler.md R171: "a model refuses a launch that violates it" (93 U5). Raised by
  `initialize`. Safe. -/
  | querySet
  /-- `set_diag_mode` where `DIAG_PRESENT` is false (41_scheduler.md R176: present only if `DIAG_PRESENT`). Safe. -/
  | absent
deriving DecidableEq, Repr

/-- What every operation answers. -/
abbrev Out := Host.Outcome State Fault Refusal

/-- The ClimateState after `initialize` (10_state.md R46). -/
def Climate.initial : Climate :=
  { powerOn := false, mode := .disabled, setpoint := 0#16, fan := .auto, swingV := false, swingH := false }

/-- The state right after `initialize(QUERY_SET)` on a machine with the parameters `c` (10_state.md R46). `ftTLast`, `ftCool` and
`txCmd`, which R46 leaves unspecified, are DESIGN CHOICEs (log 8); so are the inputs and the ports (logs 4, 10). -/
def State.initial (c : Config) : State where
  ftState := .idle
  ftBuf := []
  ftTLast := 0#32
  ftCool := 0
  rx := []
  tx := []
  now := 0#32
  pool := c.querySet
  cursor := c.querySet.length
  txCmd := [0#8, 0#8]
  activateClimate := false
  activateSwingMode := false
  refreshRequested := true
  supportRH := false
  supportRa := false
  supportRG := false
  ready := { basic := false, swing := false, compressor := false }
  diagMode := false
  active := Climate.initial
  pending := Climate.initial
  tempInside := 0#16
  tempOutside := 0#16
  tempCoil := 0#16
  fanRpm := 0#16
  compressorHz := 0#16
  swingVerticalAngle := 0#16
  diffCache := []
  report := []
  ret := .nothing
  inputs := []
  cfg := c
  freeCount := 0

/-- The machine right after reset, with the parameter instance of log 7. -/
def State.reset : State := State.initial Config.s21

end Sys2Proof.Machine
end

