-- ==== Sys2Proof/Machine/Ops.lean ====
section
/-! DEFINITION. The named operations over the block's state: the ports, the timers, the end of an exchange and the return from
it, the reaction to an error, the pool and the diff cache (00_scope.md R14, 20_memory.md R67 to R75). -/

namespace Sys2Proof.Machine

/-! ## Ports and registers -/

/-- `return v` to the caller (00_scope.md R14). -/
def putRet (v : Ret) (s : State) : State := { s with ret := v }

/-- `TxPut` of each byte in order (20_memory.md R67, R69). -/
def txPut (bs : List Byte) (s : State) : State := { s with tx := s.tx ++ bs }

/-- The environment appends bytes at the tail of `rx` (20_memory.md R62). -/
def rxArrive (bs : List Byte) (s : State) : State := { s with rx := s.rx ++ bs }

/-- `RxFlush()` (00_scope.md R14). -/
def rxFlush (s : State) : State := { s with rx := [] }

/-- `RxPop()`, where `rest` is what remains, and the stamp `ft.t_last <- now` of the byte loop (40_transport.md R135). -/
def rxConsume (rest : List Byte) (s : State) : State := { s with rx := rest, ftTLast := s.now }

/-- `emit E(args)` (00_scope.md R14). -/
def emitEvent (e : Event) (s : State) : State := { s with report := s.report ++ [e] }

/-- `ft.state <- st`. -/
def setLink (st : CommState) (s : State) : State := { s with ftState := st }

/-- `ft.buf <- b`. -/
def setBuf (b : List Byte) (s : State) : State := { s with ftBuf := b }

/-- `ft.t_last <- now`. DESIGN CHOICE (log 31): outside a tick `now` is the value of the last tick. -/
def stampTime (s : State) : State := { s with ftTLast := s.now }

/-- `tx_cmd <- c`. -/
def setTxCmd (c : Code) (s : State) : State := { s with txCmd := c }

/-- `diff_cache <- m`. -/
def setCache (m : List (Code × List Byte)) (s : State) : State := { s with diffCache := m }

/-- `now`, the clock value the host supplies with a tick (10_state.md R27). DESIGN CHOICE (log 31): the field keeps it until the next
tick, 0 before any, and an internal row offered outside a tick stamps and measures with the value kept. -/
def setNow (t : Time) (s : State) : State := { s with now := t }

/-! ## Timers -/

/-- `elapsed(t, T)` (00_scope.md R14): the modular difference `now - t` has reached `T`. DESIGN CHOICE (log 31): outside a tick `now`
is the value of the last tick. -/
def elapsed (s : State) (t : Time) (interval : Nat) : Bool := decide (interval ≤ (s.now - t).toNat)

/-- The receiving states (10_state.md R21). -/
def CommState.receiving : CommState → Bool
  | .queryAck | .commandAck | .queryStx | .queryEtx => true
  | .idle | .cooldown => false

/-! ## Taking an exception and returning from it -/

/-- The length of a cooldown interval (40_transport.md R150). -/
def coolLength (c : Config) : CoolSel → Nat
  | .turnaround => c.tTurnaround
  | .error => c.tError

/-- `complete(r, T)` (40_transport.md R150): the common end of an exchange. The result `r` is returned by the caller. -/
def complete (t : CoolSel) (s : State) : State := { s with ftCool := coolLength s.cfg t, ftState := .cooldown }

/-- The return to `Idle` when a cooldown or a response timer has run out (40_transport.md R134, R136). -/
def returnToIdle (s : State) : State := { s with ftState := .idle }

/-- `error_reaction()` (60_exceptions.md R255). -/
def errorReaction (s : State) : State :=
  { s with cursor := s.pool.length, activateClimate := false, activateSwingMode := false, refreshRequested := true }

/-- `timeout_reaction()`: report only (60_exceptions.md R256, R270; log 19). -/
def timeoutReaction (s : State) : State := emitEvent (.tickResult .timeout) s

/-! ## Pool and cursor -/

/-- `erase(pool, i)` (20_memory.md R74). -/
def poolErase (pool : List Code) (i : Nat) : List Code := pool.take i ++ pool.drop (i + 1)

/-- `remove_value(pool, c)` (20_memory.md R74; the first occurrence, 70_reset_and_hazards.md R299). -/
def removeValue (pool : List Code) (c : Code) : List Code :=
  match pool with
  | [] => []
  | h :: t => if h = c then t else h :: removeValue t c

/-- `advance()` (42_decoder.md R212). -/
def advanceCursor (s : State) : State :=
  if s.cursor < s.pool.length then { s with cursor := s.cursor + 1 } else s

/-! ## Diff cache (10_state.md R41) -/

/-- A number for every code, different codes having different numbers; the cache is kept in its order (log 20). -/
def codeKey : Code → Nat
  | [] => 0
  | b :: t => (b.toNat + 1) + 257 * codeKey t

/-- The payload last seen with a code. -/
def cacheLookup (c : Code) : List (Code × List Byte) → Option (List Byte)
  | [] => none
  | (k, v) :: t => if k = c then some v else cacheLookup c t

/-- `diff_cache[c] <- p`. -/
def cacheInsert (c : Code) (p : List Byte) : List (Code × List Byte) → List (Code × List Byte)
  | [] => [(c, p)]
  | (k, v) :: t =>
    if k = c then (c, p) :: t
    else if codeKey c < codeKey k then (c, p) :: (k, v) :: t
    else (k, v) :: cacheInsert c p t

/-- The canonical form of the cache: the codes' numbers strictly rise. -/
def cacheWf : List (Code × List Byte) → Bool
  | [] => true
  | [_] => true
  | (k, _) :: (k', v') :: t => decide (codeKey k < codeKey k') && cacheWf ((k', v') :: t)

/-! ## Free values (log 9) -/

/-- The code that `tx_cmd` holds after the `n`th `initialize`: any code of 1 or 2 bytes. -/
def freeTxCmd (n : Nat) : Code :=
  if Config.freeShort n then [Config.freeFirstByte n] else [Config.freeFirstByte n, Config.freeSecondByte n]

/-! ## Selection -/

/-- An operation that the block selects only where `c` holds (log 6). -/
def select (c : Bool) (t : State) : Out := if c then .next t else .refused .notSelected

end Sys2Proof.Machine
end

