-- ==== Sys2Proof/Machine/Operands.lean ====
section
/-! DEFINITION. The field codecs of the wire (30_encoding.md R99 to R109) and the integers of the pseudocode (00_scope.md R13).
Arithmetic is exact on integers and narrowed at the end. -/

namespace Sys2Proof.Machine

/-! ## Narrowing -/

/-- `lo8(v)` (00_scope.md R13). -/
def lo8 (v : Int) : Byte := BitVec.ofInt 8 v

/-- The write of an integer to an `int16` register: `v mod 2^16` reinterpreted as signed (00_scope.md R13). -/
def int16 (v : Int) : Int16 := BitVec.ofInt 16 v

/-- The integer of an unsigned byte. -/
def byteInt (b : Byte) : Int := (b.toNat : Int)

/-- `p[i]`; every handler reads only bytes its `min` guarantees (42_decoder.md R229). -/
def byteAt (p : List Byte) (i : Nat) : Byte := p.getD i 0#8

/-! ## Setpoint (R99, R100) -/

/-- The multiple of 5 nearest to `v` (30_encoding.md R99, step 1). -/
def round5 (v : Int) : Int := 5 * ((v + 2) / 5)

/-- `setpoint_byte` (30_encoding.md R99): `lo8(tdiv(r + 3, 5) + 28)`. -/
def setpointByte (v : Int) : Byte := lo8 (Int.tdiv (round5 v + 3) 5 + 28)

/-- `setpoint_of_byte` (30_encoding.md R100). -/
def setpointOfByte (b : Byte) : Int := (byteInt b - 28) * 5

/-! ## Three-digit numbers (R101, R102) -/

/-- The value of an ASCII digit byte; a non-digit contributes `byte - 0x30` (30_encoding.md R101). -/
def digit (p : List Byte) (i : Nat) : Int := byteInt (byteAt p i) - 48

/-- `bytes_to_num` (30_encoding.md R101): least significant digit first, negated by a fourth byte `'-'`. -/
def bytesToNum (p : List Byte) : Int :=
  let v := digit p 0 + 10 * digit p 1 + 100 * digit p 2
  if p[3]? = some 0x2D#8 then -v else v

/-- `num_to_bytes` (30_encoding.md R102): the peer's inverse; the block never executes it. -/
def numToBytes (n : Int) : List Byte :=
  let a := n.natAbs
  [BitVec.ofNat 8 (48 + a % 10), BitVec.ofNat 8 (48 + a / 10 % 10), BitVec.ofNat 8 (48 + a / 100),
    if n < 0 then 0x2D#8 else 0x2B#8]

/-! ## Combined temperatures (R103) -/

/-- `temp_of_f9_byte` (30_encoding.md R103). -/
def tempOfF9Byte (b : Byte) : Int := (((b.toNat / 2 : Nat) : Int) - 64) * 10

/-! ## Power, basic state, swing (R106 to R109) -/

/-- The power byte on transmit (30_encoding.md R106). -/
def powerByte (on : Bool) : Byte := if on then 0x31#8 else 0x30#8

/-- The power byte on receive (30_encoding.md R106). -/
def powerOfByte (b : Byte) : Bool := b == 0x31#8

/-- The basic-state command's payload (30_encoding.md R107, 41_scheduler.md R178). -/
def climatePayload (c : Config) (x : Climate) : Payload :=
  { p0 := powerByte x.powerOn, p1 := c.modeByte x.mode, p2 := setpointByte x.setpoint.toInt, p3 := c.fanByte x.fan }

/-- The value of the swing command (30_encoding.md R108): 0, 1, 2 or 7. -/
def swingVal (v h : Bool) : Nat :=
  (if v && h then 4 else 0) + (if h then 2 else 0) + (if v then 1 else 0)

/-- The swing command's payload (30_encoding.md R108). -/
def swingPayload (v h : Bool) : Payload :=
  { p0 := BitVec.ofNat 8 (0x30 + swingVal v h), p1 := if v || h then 0x3F#8 else 0x30#8, p2 := 0x30#8, p3 := 0x30#8 }

/-- The vertical bit of a swing response (30_encoding.md R109). -/
def swingVOfByte (b : Byte) : Bool := (b &&& 1#8) != 0#8

/-- The horizontal bit of a swing response (30_encoding.md R109). -/
def swingHOfByte (b : Byte) : Bool := (b &&& 2#8) != 0#8

/-! ## Received frames (R96, R118) -/

/-- The last buffered byte is the checksum of those before it (40_transport.md R149). -/
def frameOk (buf : List Byte) : Bool := decide (buf.getLast? = some (checksum buf.dropLast))

end Sys2Proof.Machine
end

