-- ==== Sys2Proof/Machine/Flags.lean ====
section
/-! DEFINITION. The flags of the block (00_scope.md R5): readiness, capability, activation and refresh flags (10_state.md R31 to
R34). -/

namespace Sys2Proof.Machine

/-- `ready <- ready ∪ {Basic}` (42_decoder.md R214). -/
def markBasic (s : State) : State := { s with ready := { s.ready with basic := true } }

/-- `ready <- ready ∪ {Swing}` (42_decoder.md R215). -/
def markSwing (s : State) : State := { s with ready := { s.ready with swing := true } }

/-- `ready <- ready ∪ {Compressor}` (42_decoder.md R223). -/
def markCompressor (s : State) : State := { s with ready := { s.ready with compressor := true } }

/-- `is_ready` (41_scheduler.md R177). -/
def readyAll (r : Ready) : Bool := r.basic && r.swing && r.compressor

/-- The gate of the pruning (41_scheduler.md R181). -/
def bothSensors (s : State) : Bool := s.supportRH && s.supportRa

/-- Diagnostics are present and switched on (42_decoder.md R228). -/
def diagnosing (s : State) : Bool := s.cfg.diagPresent && s.diagMode

end Sys2Proof.Machine
end

