-- ==== Sys2Proof/Machine/Receive.lean ====
section
/-! DEFINITION. The receive state machine `handle_rx` (40_transport.md R137 to R151): the row that a link state, a byte and the
buffer select, what each row does, and the rows' meanings. -/

namespace Sys2Proof.Machine

/-- The rows of the receive state machine, and the row of the states that consume nothing (30_encoding.md R114). -/
inductive RxRow where
  | qackAck | qackNak | qackOther | cackAck | cackNak | cackOther | qstxStx | qstxAck | qstxOther
  | qetxData | etxEmpty | etxGood | etxBad | notConsumed
deriving DecidableEq, Repr

/-- What `handle_rx` answers: `Continue` or a terminal result (40_transport.md R137). -/
inductive RxReply where
  | goOn
  | done (r : Result)
deriving DecidableEq, Repr

/-- The row selected by (link state, byte, buffer): 40_transport.md R137, R152 rows 10 to 23, 30_encoding.md R114. -/
def rxRow (s : State) (b : Byte) : RxRow :=
  match s.ftState with
  | .queryAck => if b = ackByte then .qackAck else if b = nakByte then .qackNak else .qackOther
  | .commandAck => if b = ackByte then .cackAck else if b = nakByte then .cackNak else .cackOther
  | .queryStx => if b = stxByte then .qstxStx else if b = ackByte then .qstxAck else .qstxOther
  | .queryEtx =>
    if b = etxByte then
      if s.ftBuf = [] then .etxEmpty else if frameOk s.ftBuf then .etxGood else .etxBad
    else .qetxData
  | .idle | .cooldown => .notConsumed

/-- An exchange that ends in `Error` (40_transport.md R140, R143, R146, R147, R148, R151). -/
def rxError (s : State) : RxReply × State := (.done .error, complete .error s)

/-- An exchange that ends in `Nak` (40_transport.md R139, R142). -/
def rxNak (s : State) : RxReply × State := (.done .nak, complete .turnaround s)

/-- R138. -/
def rxQueryAcked (s : State) : RxReply × State := (.goOn, setLink .queryStx s)

/-- R141. -/
def rxCommandAcked (s : State) : RxReply × State := (.done .ack, complete .turnaround s)

/-- R144. -/
def rxFrameStarts (s : State) : RxReply × State := (.goOn, setLink .queryEtx s)

/-- R147: append, or overflow. -/
def rxData (b : Byte) (s : State) : RxReply × State :=
  if s.ftBuf.length < rxMax then (.goOn, setBuf (s.ftBuf ++ [b]) s) else rxError s

/-- The `ACK` echo (R149). -/
def ackEcho (s : State) : State := txPut [ackByte] s

/-- R149: strip the checksum byte, echo `ACK`, complete. -/
def rxFrameGood (s : State) : RxReply × State :=
  (.done .ack, complete .turnaround (ackEcho (setBuf s.ftBuf.dropLast s)))

/-- What a row does with the byte it was selected for. -/
def runRx (row : RxRow) (b : Byte) (s : State) : RxReply × State :=
  match row with
  | .qackAck => rxQueryAcked s
  | .qackNak => rxNak s
  | .qackOther => rxError s
  | .cackAck => rxCommandAcked s
  | .cackNak => rxNak s
  | .cackOther => rxError s
  | .qstxStx => rxFrameStarts s
  | .qstxAck => (.goOn, s)
  | .qstxOther => rxError s
  | .qetxData => rxData b s
  | .etxEmpty => rxError s
  | .etxGood => rxFrameGood s
  | .etxBad => rxError s
  | .notConsumed => (.goOn, s)

/-- `handle_rx(b)` (40_transport.md R137). -/
def handleRx (b : Byte) (s : State) : RxReply × State := runRx (rxRow s b) b s

/-- What a handler returned, in the return register. -/
def rxRet : RxReply → Ret
  | .goOn => .goOn
  | .done r => .result r

/-- The state a handler leaves, with its reply returned. -/
def rxReturned (x : RxReply × State) : State := putRet (rxRet x.1) x.2

/-! ## Meanings -/

/-- `RX.QACK.ACK` (R138). -/
def execRxQackAck (s : State) : Out := select (rxRow s ackByte == .qackAck) (rxReturned (rxQueryAcked s))

/-- `RX.QACK.NAK` (R139). -/
def execRxQackNak (s : State) : Out := select (rxRow s nakByte == .qackNak) (rxReturned (rxNak s))

/-- `RX.QACK.OTHER` (R140). -/
def execRxQackOther (b : Byte) (s : State) : Out := select (rxRow s b == .qackOther) (rxReturned (rxError s))

/-- `RX.CACK.ACK` (R141). -/
def execRxCackAck (s : State) : Out := select (rxRow s ackByte == .cackAck) (rxReturned (rxCommandAcked s))

/-- `RX.CACK.NAK` (R142). -/
def execRxCackNak (s : State) : Out := select (rxRow s nakByte == .cackNak) (rxReturned (rxNak s))

/-- `RX.CACK.OTHER` (R143). -/
def execRxCackOther (b : Byte) (s : State) : Out := select (rxRow s b == .cackOther) (rxReturned (rxError s))

/-- `RX.QSTX.STX` (R144). -/
def execRxQstxStx (s : State) : Out := select (rxRow s stxByte == .qstxStx) (rxReturned (rxFrameStarts s))

/-- `RX.QSTX.ACK` (R145). -/
def execRxQstxAck (s : State) : Out := select (rxRow s ackByte == .qstxAck) (putRet .goOn s)

/-- `RX.QSTX.OTHER` (R146). -/
def execRxQstxOther (b : Byte) (s : State) : Out := select (rxRow s b == .qstxOther) (rxReturned (rxError s))

/-- `RX.QETX.DATA` (R147). -/
def execRxQetxData (b : Byte) (s : State) : Out := select (rxRow s b == .qetxData) (rxReturned (rxData b s))

/-- `RX.QETX.ETX.EMPTY` (R148). -/
def execRxQetxEtxEmpty (s : State) : Out := select (rxRow s etxByte == .etxEmpty) (rxReturned (rxError s))

/-- `RX.QETX.ETX.GOOD` (R149). -/
def execRxQetxEtxGood (s : State) : Out := select (rxRow s etxByte == .etxGood) (rxReturned (rxFrameGood s))

/-- `RX.QETX.ETX.BAD` (R151). -/
def execRxQetxEtxBad (s : State) : Out := select (rxRow s etxByte == .etxBad) (rxReturned (rxError s))

/-- `RX.DISPATCH`: `handle_rx(b)` (R137); in `Idle` and `Cooldown` the byte is not consumed (30_encoding.md R114). -/
def execRxDispatch (b : Byte) (s : State) : Out := .next (rxReturned (handleRx b s))

/-- `RX.NOTCONSUMED` (30_encoding.md R114): in `Idle` and `Cooldown` a byte is left where it is. -/
def execRxNotConsumed (b : Byte) (s : State) : Out := select (rxRow s b == .notConsumed) (putRet .goOn s)

/-- `ACK.ECHO` (R149): the one byte that answers a validated response frame. The spec has it only inside the handler of that frame's
`ETX`; DESIGN CHOICE (log 33): offered alone it runs where an `ETX` would validate the buffer, transmits the byte and leaves the link
state and the buffer as they are. -/
def execAckEcho (s : State) : Out := select (rxRow s etxByte == .etxGood) (putRet .nothing (ackEcho s))

/-- `COMPLETE` (R150). The spec calls it only from a receive handler; DESIGN CHOICE (log 32): offered alone it runs in every link
state, `Idle`, `Cooldown` and a receiving state in which no byte came included, and enters `Cooldown`. -/
def execComplete (r : Result) (t : CoolSel) (s : State) : Out := .next (putRet (.result r) (complete t s))

end Sys2Proof.Machine
end

