-- ==== Sys2Proof/Machine/Transport.lean ====
section
/-! DEFINITION. FrameTransport's two operations, `send_frame` and `service` (40_transport.md R130 to R136), and the meanings of
their rows. -/

namespace Sys2Proof.Machine

/-! ## send_frame -/

/-- The cases of `send_frame` (R130, R131, R132). -/
inductive SendRow where
  | busy | ok | badLen
deriving DecidableEq, Repr

/-- The case selected: `Busy` is tested before the length (R130, 60_exceptions.md R260 (4)). -/
def sendRow (s : State) (code : Code) : SendRow :=
  if s.ftState ≠ .idle then .busy
  else if 1 ≤ code.length ∧ code.length ≤ maxCmdLen then .ok else .badLen

/-- The link state after a frame is sent (R131). -/
def sentState : Option Payload → CommState
  | none => .queryAck
  | some _ => .commandAck

/-- The five steps of the success case (R131). -/
def sendFrameDone (code : Code) (p : Option Payload) (s : State) : State :=
  let s1 := rxFlush (setBuf [] s)
  let s2 := txPut (encodeFrame code p) s1
  setLink (sentState p) (stampTime s2)

/-- `send_frame(code, payload?)`: its result and the state after it. -/
def sendFrame (code : Code) (p : Option Payload) (s : State) : Result × State :=
  match sendRow s code with
  | .busy => (.busy, s)
  | .ok => (.ack, sendFrameDone code p s)
  | .badLen => (.error, s)

/-- The state an operation leaves, with its result returned. -/
def returned (x : Result × State) : State := putRet (.result x.1) x.2

/-! ## service -/

/-- The cases of `service` (R133 to R136). -/
inductive ServiceRow where
  | idle | cooldown | receive | timeout
deriving DecidableEq, Repr

/-- The case selected: the timeout is tested before any byte is read (R136, 60_exceptions.md R260 (1)). -/
def serviceRow (s : State) (tResponse : Nat) : ServiceRow :=
  match s.ftState with
  | .idle => .idle
  | .cooldown => .cooldown
  | .queryAck | .commandAck | .queryStx | .queryEtx => if elapsed s s.ftTLast tResponse then .timeout else .receive

/-- R134. -/
def serviceCooldown (s : State) : Result × State :=
  if elapsed s s.ftTLast s.ftCool then (.idle, returnToIdle s) else (.busy, s)

/-- The byte loop over what is in `rx` (R135). -/
def rxLoop : List Byte → State → Result × State
  | [], s => (.busy, s)
  | b :: rest, s =>
    match handleRx b (rxConsume rest s) with
    | (.done r, t) => (r, t)
    | (.goOn, t) => rxLoop rest t

/-- R135. -/
def serviceReceive (s : State) : Result × State := rxLoop s.rx s

/-- R136. -/
def serviceTimeout (s : State) : Result × State := (.timeout, returnToIdle s)

/-- `service()`: its result and the state after it. -/
def service (s : State) : Result × State :=
  match serviceRow s s.cfg.tResponse with
  | .idle => (.idle, s)
  | .cooldown => serviceCooldown s
  | .receive => serviceReceive s
  | .timeout => serviceTimeout s

/-! ## Meanings -/

/-- `SEND_FRAME.BUSY` (R130). -/
def execSendFrameBusy (code : Code) (_p : Option Payload) (s : State) : Out :=
  select (sendRow s code == .busy) (putRet (.result .busy) s)

/-- `SEND_FRAME.OK` (R131). -/
def execSendFrameOk (code : Code) (p : Option Payload) (s : State) : Out :=
  select (sendRow s code == .ok) (putRet (.result .ack) (sendFrameDone code p s))

/-- `SEND_FRAME.BADLEN` (R132). -/
def execSendFrameBadLen (code : Code) (_p : Option Payload) (s : State) : Out :=
  select (sendRow s code == .badLen) (putRet (.result .error) s)

/-- `SERVICE.IDLE` (R133). -/
def execServiceIdle (s : State) : Out :=
  select (serviceRow s s.cfg.tResponse == .idle) (putRet (.result .idle) s)

/-- `SERVICE.COOLDOWN` (R134). -/
def execServiceCooldown (s : State) : Out :=
  select (serviceRow s s.cfg.tResponse == .cooldown) (returned (serviceCooldown s))

/-- `SERVICE.RECEIVE` (R135). -/
def execServiceReceive (s : State) : Out :=
  select (serviceRow s s.cfg.tResponse == .receive) (returned (serviceReceive s))

/-- `SERVICE.TIMEOUT` (R136). -/
def execServiceTimeout (s : State) : Out :=
  select (serviceRow s s.cfg.tResponse == .timeout) (returned (serviceTimeout s))

end Sys2Proof.Machine
end

