-- ==== Sys2Proof/Machine/Demux.lean ====
section
/-! DEFINITION. The response demultiplexer: `parse_ack`, the decode table and its handlers (42_decoder.md R210 to R229). -/

namespace Sys2Proof.Machine

/-- The rows of the decode table (30_encoding.md R110). -/
inductive Family where
  | basic | swing | tempCombined | version | fanMode | tempInside | tempCoil | tempOutside | fanRpm | compressor
  | setpoint | swingAngle | echoClimate | echoSwing
deriving DecidableEq, Repr

/-- The rows in the order of 30_encoding.md R110. -/
def Family.all : List Family :=
  [.basic, .swing, .tempCombined, .version, .fanMode, .tempInside, .tempCoil, .tempOutside, .fanRpm, .compressor,
    .setpoint, .swingAngle, .echoClimate, .echoSwing]

/-- The code parameter of a row (30_encoding.md R110). -/
def familyCode (c : Config) : Family → Code
  | .basic => c.rcBasic
  | .swing => c.rcSwing
  | .tempCombined => c.rcTempCombined
  | .version => c.rcVersion
  | .fanMode => c.rcFanMode
  | .tempInside => c.rcTempInside
  | .tempCoil => c.rcTempCoil
  | .tempOutside => c.rcTempOutside
  | .fanRpm => c.rcFanRpm
  | .compressor => c.rcCompressor
  | .setpoint => c.rcSetpoint
  | .swingAngle => c.rcSwingAngle
  | .echoClimate => c.cmdClimate
  | .echoSwing => c.cmdSwing

/-- The least payload length of a row (30_encoding.md R110). -/
def familyMin : Family → Nat
  | .basic => 4
  | .swing => 1
  | .tempCombined => 2
  | .version => 0
  | .fanMode => 1
  | .tempInside => 3
  | .tempCoil => 3
  | .tempOutside => 3
  | .fanRpm => 3
  | .compressor => 3
  | .setpoint => 3
  | .swingAngle => 3
  | .echoClimate => 0
  | .echoSwing => 0

/-- What a code and a payload select (42_decoder.md R213). -/
inductive RspRow where
  | handler (f : Family)
  | short (f : Family)
  | unknown
deriving DecidableEq, Repr

/-- The row whose code is `code` (42_decoder.md R213); the codes are pairwise distinct (00_scope.md R10). -/
def familyOf (c : Config) (code : Code) : Option Family := Family.all.find? (fun f => familyCode c f == code)

/-- The handler, the skip or the unknown-code handler (42_decoder.md R213, R228, R229). -/
def rspRow (c : Config) (code : Code) (p : List Byte) : RspRow :=
  match familyOf c code with
  | none => .unknown
  | some f => if familyMin f ≤ p.length then .handler f else .short f

/-! ## Handlers -/

/-- The field keeps its value where the byte decodes to nothing (30_encoding.md R104, R105). -/
def keepOr {α : Type} (old : α) : Option α → α
  | none => old
  | some v => v

/-- R214. -/
def handleBasic (p : List Byte) (s : State) : State :=
  markBasic { s with active := { s.active with
    powerOn := powerOfByte (byteAt p 0)
    mode := keepOr s.active.mode (s.cfg.modeOfByte (byteAt p 1))
    setpoint := int16 (setpointOfByte (byteAt p 2))
    fan := if s.supportRG then s.active.fan else keepOr s.active.fan (s.cfg.fanOfByte (byteAt p 3)) } }

/-- R215. -/
def handleSwing (p : List Byte) (s : State) : State :=
  markSwing { s with active := { s.active with
    swingV := swingVOfByte (byteAt p 0), swingH := swingHOfByte (byteAt p 0) } }

/-- R216. -/
def handleTempCombined (p : List Byte) (s : State) : State :=
  { s with tempInside := int16 (tempOfF9Byte (byteAt p 0)), tempOutside := int16 (tempOfF9Byte (byteAt p 1)) }

/-- R217. -/
def handleVersion (s : State) : State := s

/-- R218. -/
def handleFanMode (p : List Byte) (s : State) : State :=
  match s.cfg.fanOfByte (byteAt p 0) with
  | none => s
  | some f => { s with active := { s.active with fan := f }, supportRG := true }

/-- R219. -/
def handleTempInside (p : List Byte) (s : State) : State := { s with tempInside := int16 (bytesToNum p), supportRH := true }

/-- R220. -/
def handleTempCoil (p : List Byte) (s : State) : State := { s with tempCoil := int16 (bytesToNum p) }

/-- R221. -/
def handleTempOutside (p : List Byte) (s : State) : State :=
  { s with tempOutside := int16 (bytesToNum p), supportRa := true }

/-- R222. -/
def handleFanRpm (p : List Byte) (s : State) : State := { s with fanRpm := int16 (bytesToNum p * 10) }

/-- R223. -/
def handleCompressor (p : List Byte) (s : State) : State := markCompressor { s with compressorHz := int16 (bytesToNum p) }

/-- R224. -/
def handleSetpoint (p : List Byte) (s : State) : State :=
  { s with active := { s.active with setpoint := int16 (bytesToNum p) } }

/-- R225. -/
def handleSwingAngle (p : List Byte) (s : State) : State := { s with swingVerticalAngle := int16 (bytesToNum p) }

/-- R226. -/
def handleEchoClimate (s : State) : State :=
  { s with
    active := { s.active with
      powerOn := s.pending.powerOn, mode := s.pending.mode, setpoint := s.pending.setpoint, fan := s.pending.fan }
    activateClimate := false
    refreshRequested := true }

/-- R227. -/
def handleEchoSwing (s : State) : State :=
  { s with
    active := { s.active with swingV := s.pending.swingV, swingH := s.pending.swingH }
    activateSwingMode := false
    refreshRequested := true }

/-- The hint of an unknown code's log event (R228). -/
def unknownHint (p : List Byte) : Option Int := if 3 ≤ p.length then some (bytesToNum p) else none

/-- The second half of R228: report a change and remember the payload. -/
def noteChange (code : Code) (p : List Byte) (s : State) : State :=
  if cacheLookup code s.diffCache = some p then s
  else
    setCache (cacheInsert code p s.diffCache) (emitEvent (.logChanged code (cacheLookup code s.diffCache) p) s)

/-- R228. -/
def handleUnknown (code : Code) (p : List Byte) (s : State) : State :=
  if diagnosing s then noteChange code p (emitEvent (.logUnknown code p (unknownHint p)) s) else s

/-- The handler of a row. -/
def runFamily (f : Family) (p : List Byte) (s : State) : State :=
  match f with
  | .basic => handleBasic p s
  | .swing => handleSwing p s
  | .tempCombined => handleTempCombined p s
  | .version => handleVersion s
  | .fanMode => handleFanMode p s
  | .tempInside => handleTempInside p s
  | .tempCoil => handleTempCoil p s
  | .tempOutside => handleTempOutside p s
  | .fanRpm => handleFanRpm p s
  | .compressor => handleCompressor p s
  | .setpoint => handleSetpoint p s
  | .swingAngle => handleSwingAngle p s
  | .echoClimate => handleEchoClimate s
  | .echoSwing => handleEchoSwing s

/-- `dispatch(code, p)` (R213). -/
def dispatchRsp (code : Code) (p : List Byte) (s : State) : State :=
  match rspRow s.cfg code p with
  | .handler f => runFamily f p s
  | .short _ => s
  | .unknown => handleUnknown code p s

/-! ## parse_ack -/

/-- R210: a bare acknowledgment. -/
def parseAckBare (s : State) : State := dispatchRsp s.txCmd [] s

/-- The length of the response code (R211). -/
def codeLength (s : State) : Nat := min s.txCmd.length s.ftBuf.length

/-- R211: split, advance, dispatch. -/
def parseAckSplit (s : State) : State :=
  dispatchRsp (s.ftBuf.take (codeLength s)) (s.ftBuf.drop (codeLength s)) (advanceCursor s)

/-- `parse_ack()` (R210, R211). -/
def parseAck (s : State) : State := if s.ftBuf = [] then parseAckBare s else parseAckSplit s

/-! ## Meanings -/

/-- A handler offered a payload: it runs, or is skipped where the payload is too short (R229). -/
def runOrSkip (f : Family) (p : List Byte) (s : State) : Out :=
  .next (putRet .nothing (if familyMin f ≤ p.length then runFamily f p s else s))

/-- `RSP.BASIC` (R214). -/
def execRspBasic (p : List Byte) (s : State) : Out := runOrSkip .basic p s

/-- `RSP.SWING` (R215). -/
def execRspSwing (p : List Byte) (s : State) : Out := runOrSkip .swing p s

/-- `RSP.TEMP_COMBINED` (R216). -/
def execRspTempCombined (p : List Byte) (s : State) : Out := runOrSkip .tempCombined p s

/-- `RSP.VERSION` (R217). -/
def execRspVersion (p : List Byte) (s : State) : Out := runOrSkip .version p s

/-- `RSP.FAN_MODE` (R218). -/
def execRspFanMode (p : List Byte) (s : State) : Out := runOrSkip .fanMode p s

/-- `RSP.TEMP_INSIDE` (R219). -/
def execRspTempInside (p : List Byte) (s : State) : Out := runOrSkip .tempInside p s

/-- `RSP.TEMP_COIL` (R220). -/
def execRspTempCoil (p : List Byte) (s : State) : Out := runOrSkip .tempCoil p s

/-- `RSP.TEMP_OUTSIDE` (R221). -/
def execRspTempOutside (p : List Byte) (s : State) : Out := runOrSkip .tempOutside p s

/-- `RSP.FAN_RPM` (R222). -/
def execRspFanRpm (p : List Byte) (s : State) : Out := runOrSkip .fanRpm p s

/-- `RSP.COMPRESSOR` (R223). -/
def execRspCompressor (p : List Byte) (s : State) : Out := runOrSkip .compressor p s

/-- `RSP.SETPOINT` (R224). -/
def execRspSetpoint (p : List Byte) (s : State) : Out := runOrSkip .setpoint p s

/-- `RSP.SWING_ANGLE` (R225). -/
def execRspSwingAngle (p : List Byte) (s : State) : Out := runOrSkip .swingAngle p s

/-- `ECHO.CLIMATE` (R226). -/
def execEchoClimate (s : State) : Out := .next (putRet .nothing (handleEchoClimate s))

/-- `ECHO.SWING` (R227). -/
def execEchoSwing (s : State) : Out := .next (putRet .nothing (handleEchoSwing s))

/-- `RSP.UNKNOWN` (R228). -/
def execRspUnknown (code : Code) (p : List Byte) (s : State) : Out :=
  select (familyOf s.cfg code == none) (putRet .nothing (handleUnknown code p s))

/-- Whether a code matches a row whose payload is too short (R229). -/
def isShort (c : Config) (code : Code) (p : List Byte) : Bool :=
  match rspRow c code p with
  | .short _ => true
  | .handler _ | .unknown => false

/-- `RSP.SHORT` (R229). -/
def execRspShort (code : Code) (p : List Byte) (s : State) : Out :=
  select (isShort s.cfg code p) (putRet .nothing s)

/-- `PARSE_ACK.BARE` (R210). -/
def execParseAckBare (s : State) : Out := select (decide (s.ftBuf = [])) (putRet .nothing (parseAckBare s))

/-- `PARSE_ACK.SPLIT` (R211). -/
def execParseAckSplit (s : State) : Out := select (decide (s.ftBuf ≠ [])) (putRet .nothing (parseAckSplit s))

/-- `ADVANCE` (R212). -/
def execAdvance (s : State) : Out := .next (putRet .nothing (advanceCursor s))

/-- `DISPATCH` (R213). -/
def execDispatch (code : Code) (p : List Byte) (s : State) : Out := .next (putRet .nothing (dispatchRsp code p s))

end Sys2Proof.Machine
end

