-- ==== Sys2Proof/Machine/Selector.lean ====
section
/-! DEFINITION. The transmit selector (41_scheduler.md R178 to R184). -/

namespace Sys2Proof.Machine

/-- The arms of the selector (R178 to R182). -/
inductive TxArm where
  | climate | swing | continueScan | startScan | nothing
deriving DecidableEq, Repr

/-- The arm that fires: strict priority (R184). -/
def txArm (s : State) : TxArm :=
  if s.activateClimate then .climate
  else if s.activateSwingMode then .swing
  else if s.cursor < s.pool.length then .continueScan
  else if s.refreshRequested then .startScan
  else .nothing

/-- `send(code, payload?)` (R183): `tx_cmd` is written only where the transmission was accepted. -/
def send (code : Code) (p : Option Payload) (s : State) : Result × State :=
  match sendFrame code p s with
  | (.ack, t) => (.ack, setTxCmd code t)
  | (r, t) => (r, t)

/-- The state after a `send` whose result is ignored (R183). -/
def sendIgnored (code : Code) (p : Option Payload) (s : State) : State := (send code p s).2

/-- R178. -/
def sendClimate (s : State) : State := sendIgnored s.cfg.cmdClimate (some (climatePayload s.cfg s.pending)) s

/-- R179. -/
def sendSwing (s : State) : State :=
  sendIgnored s.cfg.cmdSwing (some (swingPayload s.pending.swingV s.pending.swingH)) s

/-- R180. -/
def continueScan (s : State) : State := sendIgnored (s.pool.getD s.cursor []) none s

/-- The pruning and the restart of R181, before the send. -/
def scanStarted (s : State) : State :=
  { s with
    pool := if bothSensors s then removeValue s.pool s.cfg.qTempCombined else s.pool
    cursor := 0
    refreshRequested := false }

/-- R181. -/
def startScan (s : State) : State :=
  match (scanStarted s).pool with
  | [] => scanStarted s
  | q :: _ => sendIgnored q none (scanStarted s)

/-- What an arm does. -/
def runArm (a : TxArm) (s : State) : State :=
  match a with
  | .climate => sendClimate s
  | .swing => sendSwing s
  | .continueScan => continueScan s
  | .startScan => startScan s
  | .nothing => s

/-- `tx_next()` (R184). -/
def txNext (s : State) : State := runArm (txArm s) s

/-! ## Meanings

The spec evaluates the selector only when `service` has returned `Idle` (R184). DESIGN CHOICE (log 34): `TX_NEXT` and the arm rows,
offered alone, run in every link state; where the link is not idle the frame is not sent (R183), and what an arm does beside the send
still happens. -/

/-- `CMD.CLIMATE` (R178). -/
def execCmdClimate (s : State) : Out := select (txArm s == .climate) (putRet .nothing (sendClimate s))

/-- `CMD.SWING` (R179). -/
def execCmdSwing (s : State) : Out := select (txArm s == .swing) (putRet .nothing (sendSwing s))

/-- `QUERY.CONTINUE` (R180). -/
def execQueryContinue (s : State) : Out := select (txArm s == .continueScan) (putRet .nothing (continueScan s))

/-- `QUERY.START` (R181). Offered alone with the link not idle it prunes, resets the cursor and clears the refresh flag with nothing
sent (DESIGN CHOICE, log 34). -/
def execQueryStart (s : State) : Out := select (txArm s == .startScan) (putRet .nothing (startScan s))

/-- `IDLE.NOTHING` (R182). -/
def execIdleNothing (s : State) : Out := select (txArm s == .nothing) (putRet .nothing s)

/-- `SEND` (R183). R183 gives no value to a caller; DESIGN CHOICE (log 35): offered alone it leaves the result of `send_frame` in the
return register. -/
def execSend (code : Code) (p : Option Payload) (s : State) : Out := .next (returned (send code p s))

/-- `TX_NEXT` (R184), in every link state (DESIGN CHOICE, log 34). -/
def execTxNext (s : State) : Out := .next (putRet .nothing (txNext s))

end Sys2Proof.Machine
end

