-- ==== Sys2Proof/Machine/React.lean ====
section
/-! DEFINITION. The Session's reactions to a result (41_scheduler.md R185, R186; 60_exceptions.md R254 to R257). -/

namespace Sys2Proof.Machine

/-- The refused frame is the query at the scan cursor (41_scheduler.md R185). -/
def nakIsQuery (s : State) : Bool :=
  decide (s.cursor < s.pool.length) && decide (s.pool[s.cursor]? = some s.txCmd)

/-- R185: the query at the cursor leaves the pool, the cursor keeps its number. -/
def dropQuery (s : State) : State := { s with pool := poolErase s.pool s.cursor }

/-- `handle_nak()` (R185, R186). -/
def handleNak (s : State) : State := if nakIsQuery s then dropQuery s else parseAck s

/-- The Session's reaction to the result of the tick's `service` (41_scheduler.md R172). -/
def react (r : Result) (s : State) : State :=
  match r with
  | .ack => parseAck s
  | .idle => txNext s
  | .nak => handleNak s
  | .error => errorReaction s
  | .timeout => timeoutReaction s
  | .busy => s

/-- `emit TickResult(r)` at the end of a tick (60_exceptions.md R270); for `Timeout` the reaction itself is that report (R256). -/
def reportResult (r : Result) (s : State) : State :=
  match r with
  | .timeout => s
  | .ack | .idle | .nak | .error | .busy => emitEvent (.tickResult r) s

/-! ## Meanings -/

/-- `HANDLE_NAK.QUERY` (R185). -/
def execHandleNakQuery (s : State) : Out := select (nakIsQuery s) (putRet .nothing (dropQuery s))

/-- `HANDLE_NAK.COMMAND` (R186). -/
def execHandleNakCommand (s : State) : Out := select (!nakIsQuery s) (putRet .nothing (parseAck s))

/-- `REACT.ERROR` (60_exceptions.md R255). -/
def execReactError (s : State) : Out := .next (putRet .nothing (errorReaction s))

/-- `REACT.TIMEOUT` (60_exceptions.md R256): report only. -/
def execReactTimeout (s : State) : Out := .next (putRet .nothing (timeoutReaction s))

/-- `REACT.BUSY` (60_exceptions.md R257): no action. -/
def execReactBusy (s : State) : Out := .next (putRet .nothing s)

end Sys2Proof.Machine
end

