-- ==== Sys2Proof/Machine/HostPort.lean ====
section
/-! DEFINITION. The host operations (41_scheduler.md R170 to R177, R187). -/

namespace Sys2Proof.Machine

/-- The state after `initialize(q)` (41_scheduler.md R170, 10_state.md R46): everything but `rx`, `tx` and what is not the block's
(the clock input, the report port, the inputs, the parameters) takes its reset value; `ft.t_last`, `ft.cool` and `tx_cmd` take
free values (log 9). -/
def initialized (q : List Code) (s : State) : State :=
  { State.initial s.cfg with
    pool := q
    cursor := q.length
    ftTLast := Config.freeTime s.freeCount
    ftCool := Config.freeInterval s.freeCount
    txCmd := freeTxCmd s.freeCount
    rx := s.rx
    tx := s.tx
    now := s.now
    report := s.report
    inputs := s.inputs
    freeCount := s.freeCount + 1 }

/-- One tick (41_scheduler.md R172): one `service`, one reaction, one report. -/
def tickOnce (t : Time) (s : State) : State :=
  let x := service (setNow t s)
  reportResult x.1 (react x.1 x.2)

/-- The record `snapshot` returns (41_scheduler.md R187). -/
def snapshotOf (s : State) : Snapshot :=
  { active := s.active
    tempInside := s.tempInside
    tempOutside := s.tempOutside
    tempCoil := s.tempCoil
    fanRpm := s.fanRpm
    compressorHz := s.compressorHz
    swingVerticalAngle := s.swingVerticalAngle
    supportRH := s.supportRH
    supportRa := s.supportRa
    supportRG := s.supportRG
    ready := s.ready }

/-! ## Meanings -/

/-- `initialize` (R170), refused where the query set violates R171. -/
def execHostInit (q : List Code) (s : State) : Out :=
  if s.cfg.querySetOk q then .next (initialized q s) else .refused .querySet

/-- `tick` (R172). -/
def execTick (t : Time) (s : State) : Out := .next (putRet .nothing (tickOnce t s))

/-- `request_climate_change` (R173). -/
def execRequestClimateChange (power : Bool) (mode : Mode) (setpoint : Int16) (fan : Fan) (s : State) : Out :=
  .next (putRet .nothing
    { s with
      pending := { s.pending with powerOn := power, mode := mode, setpoint := setpoint, fan := fan }
      activateClimate := true })

/-- `request_swing_change` (R174). -/
def execRequestSwingChange (vertical horizontal : Bool) (s : State) : Out :=
  .next (putRet .nothing
    { s with
      pending := { s.pending with swingV := vertical, swingH := horizontal }
      activateSwingMode := true })

/-- `request_refresh` (R175). -/
def execRequestRefresh (s : State) : Out := .next (putRet .nothing { s with refreshRequested := true })

/-- `set_diag_mode` (R176), present only where `DIAG_PRESENT`. -/
def execSetDiagMode (b : Bool) (s : State) : Out :=
  if s.cfg.diagPresent then .next (putRet .nothing { s with diagMode := b }) else .refused .absent

/-- `is_ready` (R177). -/
def execIsReady (s : State) : Out := .next (putRet (.bool (readyAll s.ready)) s)

/-- `snapshot` (R187). -/
def execSnapshot (s : State) : Out := .next (putRet (.snap (snapshotOf s)) s)

end Sys2Proof.Machine
end

