-- ==== Sys2Proof/Machine/Wire.lean ====
section
/-! DEFINITION. The meanings of the wire rows (30_encoding.md R90 to R98; log 2). A control byte alone and a response frame come from
the peer: they arrive on the receive port (20_memory.md R62). A query or command frame goes to the peer: it is offered to
`send_frame`, the only way a frame reaches the wire (10_state.md R26). -/

namespace Sys2Proof.Machine

/-- `STX` arrives. -/
def execStx (s : State) : Out := .next (rxArrive [stxByte] s)

/-- `ETX` arrives. -/
def execEtx (s : State) : Out := .next (rxArrive [etxByte] s)

/-- `ENQ` arrives. -/
def execEnq (s : State) : Out := .next (rxArrive [enqByte] s)

/-- `ACK` arrives. -/
def execAck (s : State) : Out := .next (rxArrive [ackByte] s)

/-- `NAK` arrives. -/
def execNak (s : State) : Out := .next (rxArrive [nakByte] s)

/-- `FRAME.Q1` (R92): `send_frame` with a 1-byte code and no payload. -/
def execFrameQ1 (c : Byte) (s : State) : Out := .next (returned (sendFrame [c] none s))

/-- `FRAME.Q2` (R92): `send_frame` with a 2-byte code and no payload. -/
def execFrameQ2 (c d : Byte) (s : State) : Out := .next (returned (sendFrame [c, d] none s))

/-- `FRAME.C1` (R93): `send_frame` with a 1-byte code and a payload. -/
def execFrameC1 (c : Byte) (p : Payload) (s : State) : Out := .next (returned (sendFrame [c] (some p) s))

/-- `FRAME.C2` (R93): `send_frame` with a 2-byte code and a payload. -/
def execFrameC2 (c d : Byte) (p : Payload) (s : State) : Out := .next (returned (sendFrame [c, d] (some p) s))

/-- `FRAME.R` (R94): the bytes the peer sends arrive in order. Where a byte 0x03 stands inside, the receiver ends the frame at the
first one (R116). -/
def execFrameR (body : List Byte) (s : State) : Out := .next (rxArrive ([stxByte] ++ body ++ [etxByte]) s)

/-- `CHECKSUM` (R96). -/
def execChecksum (body : List Byte) (s : State) : Out := .next (putRet (.byte (checksum body)) s)

/-- `ENCODE_FRAME` (R98). -/
def execEncodeFrame (code : Code) (p : Option Payload) (s : State) : Out :=
  .next (putRet (.bytes (encodeFrame code p)) s)

end Sys2Proof.Machine
end

