-- ==== Sys2Proof/Machine/Dispatch.lean ====
section
/-! DEFINITION. Which meaning each operation has. -/

namespace Sys2Proof.Machine

def exec (i : Instr) (s : State) : Host.Outcome State Fault Refusal :=
  match i with
  | .stx => Sys2Proof.Machine.execStx s
  | .etx => Sys2Proof.Machine.execEtx s
  | .enq => Sys2Proof.Machine.execEnq s
  | .ack => Sys2Proof.Machine.execAck s
  | .nak => Sys2Proof.Machine.execNak s
  | .frameQ1 c => Sys2Proof.Machine.execFrameQ1 c s
  | .frameQ2 c d => Sys2Proof.Machine.execFrameQ2 c d s
  | .frameC1 c p => Sys2Proof.Machine.execFrameC1 c p s
  | .frameC2 c d p => Sys2Proof.Machine.execFrameC2 c d p s
  | .frameR body => Sys2Proof.Machine.execFrameR body s
  | .checksum body => Sys2Proof.Machine.execChecksum body s
  | .encodeFrame code p => Sys2Proof.Machine.execEncodeFrame code p s
  | .cmdClimate => Sys2Proof.Machine.execCmdClimate s
  | .cmdSwing => Sys2Proof.Machine.execCmdSwing s
  | .queryContinue => Sys2Proof.Machine.execQueryContinue s
  | .queryStart => Sys2Proof.Machine.execQueryStart s
  | .idleNothing => Sys2Proof.Machine.execIdleNothing s
  | .ackEcho => Sys2Proof.Machine.execAckEcho s
  | .rxQackAck => Sys2Proof.Machine.execRxQackAck s
  | .rxQackNak => Sys2Proof.Machine.execRxQackNak s
  | .rxQackOther b => Sys2Proof.Machine.execRxQackOther b s
  | .rxCackAck => Sys2Proof.Machine.execRxCackAck s
  | .rxCackNak => Sys2Proof.Machine.execRxCackNak s
  | .rxCackOther b => Sys2Proof.Machine.execRxCackOther b s
  | .rxQstxStx => Sys2Proof.Machine.execRxQstxStx s
  | .rxQstxAck => Sys2Proof.Machine.execRxQstxAck s
  | .rxQstxOther b => Sys2Proof.Machine.execRxQstxOther b s
  | .rxQetxData b => Sys2Proof.Machine.execRxQetxData b s
  | .rxQetxEtxEmpty => Sys2Proof.Machine.execRxQetxEtxEmpty s
  | .rxQetxEtxGood => Sys2Proof.Machine.execRxQetxEtxGood s
  | .rxQetxEtxBad => Sys2Proof.Machine.execRxQetxEtxBad s
  | .rxDispatch b => Sys2Proof.Machine.execRxDispatch b s
  | .rxNotConsumed b => Sys2Proof.Machine.execRxNotConsumed b s
  | .sendFrameBusy code p => Sys2Proof.Machine.execSendFrameBusy code p s
  | .sendFrameOk code p => Sys2Proof.Machine.execSendFrameOk code p s
  | .sendFrameBadLen code p => Sys2Proof.Machine.execSendFrameBadLen code p s
  | .serviceIdle => Sys2Proof.Machine.execServiceIdle s
  | .serviceCooldown => Sys2Proof.Machine.execServiceCooldown s
  | .serviceReceive => Sys2Proof.Machine.execServiceReceive s
  | .serviceTimeout => Sys2Proof.Machine.execServiceTimeout s
  | .complete r t => Sys2Proof.Machine.execComplete r t s
  | .rspBasic p => Sys2Proof.Machine.execRspBasic p s
  | .rspSwing p => Sys2Proof.Machine.execRspSwing p s
  | .rspTempCombined p => Sys2Proof.Machine.execRspTempCombined p s
  | .rspVersion p => Sys2Proof.Machine.execRspVersion p s
  | .rspFanMode p => Sys2Proof.Machine.execRspFanMode p s
  | .rspTempInside p => Sys2Proof.Machine.execRspTempInside p s
  | .rspTempCoil p => Sys2Proof.Machine.execRspTempCoil p s
  | .rspTempOutside p => Sys2Proof.Machine.execRspTempOutside p s
  | .rspFanRpm p => Sys2Proof.Machine.execRspFanRpm p s
  | .rspCompressor p => Sys2Proof.Machine.execRspCompressor p s
  | .rspSetpoint p => Sys2Proof.Machine.execRspSetpoint p s
  | .rspSwingAngle p => Sys2Proof.Machine.execRspSwingAngle p s
  | .echoClimate => Sys2Proof.Machine.execEchoClimate s
  | .echoSwing => Sys2Proof.Machine.execEchoSwing s
  | .rspUnknown code p => Sys2Proof.Machine.execRspUnknown code p s
  | .rspShort code p => Sys2Proof.Machine.execRspShort code p s
  | .parseAckBare => Sys2Proof.Machine.execParseAckBare s
  | .parseAckSplit => Sys2Proof.Machine.execParseAckSplit s
  | .advance => Sys2Proof.Machine.execAdvance s
  | .dispatch code p => Sys2Proof.Machine.execDispatch code p s
  | .send code p => Sys2Proof.Machine.execSend code p s
  | .txNext => Sys2Proof.Machine.execTxNext s
  | .handleNakQuery => Sys2Proof.Machine.execHandleNakQuery s
  | .handleNakCommand => Sys2Proof.Machine.execHandleNakCommand s
  | .reactError => Sys2Proof.Machine.execReactError s
  | .reactTimeout => Sys2Proof.Machine.execReactTimeout s
  | .reactBusy => Sys2Proof.Machine.execReactBusy s
  | .hostInit querySet => Sys2Proof.Machine.execHostInit querySet s
  | .tick now => Sys2Proof.Machine.execTick now s
  | .requestClimateChange power mode setpoint fan => Sys2Proof.Machine.execRequestClimateChange power mode setpoint fan s
  | .requestSwingChange vertical horizontal => Sys2Proof.Machine.execRequestSwingChange vertical horizontal s
  | .requestRefresh => Sys2Proof.Machine.execRequestRefresh s
  | .setDiagMode b => Sys2Proof.Machine.execSetDiagMode b s
  | .isReady => Sys2Proof.Machine.execIsReady s
  | .snapshot => Sys2Proof.Machine.execSnapshot s

end Sys2Proof.Machine
end

