-- ==== Sys2Proof/Machine/Fetch.lean ====
section
/-! DEFINITION. The ports: the eight host operations, and taking the next entry of what is presented to the block (logs 4, 5, 17). -/

namespace Sys2Proof.Machine

/-- The eight operations of the host operation port (00_scope.md R15, 60_exceptions.md R266, R271). -/
def hostOperation : Instr → Bool
  | .hostInit _ | .tick _ | .requestClimateChange _ _ _ _ | .requestSwingChange _ _ | .requestRefresh | .setDiagMode _
  | .isReady | .snapshot => true
  | .stx | .etx | .enq | .ack | .nak | .frameQ1 _ | .frameQ2 _ _ | .frameC1 _ _ | .frameC2 _ _ _ | .frameR _ | .checksum _
  | .encodeFrame _ _ | .cmdClimate | .cmdSwing | .queryContinue | .queryStart | .idleNothing | .ackEcho | .rxQackAck
  | .rxQackNak | .rxQackOther _ | .rxCackAck | .rxCackNak | .rxCackOther _ | .rxQstxStx | .rxQstxAck | .rxQstxOther _
  | .rxQetxData _ | .rxQetxEtxEmpty | .rxQetxEtxGood | .rxQetxEtxBad | .rxDispatch _ | .rxNotConsumed _
  | .sendFrameBusy _ _ | .sendFrameOk _ _ | .sendFrameBadLen _ _ | .serviceIdle | .serviceCooldown | .serviceReceive
  | .serviceTimeout | .complete _ _ | .rspBasic _ | .rspSwing _ | .rspTempCombined _ | .rspVersion _ | .rspFanMode _
  | .rspTempInside _ | .rspTempCoil _ | .rspTempOutside _ | .rspFanRpm _ | .rspCompressor _ | .rspSetpoint _
  | .rspSwingAngle _ | .echoClimate | .echoSwing | .rspUnknown _ _ | .rspShort _ _ | .parseAckBare | .parseAckSplit
  | .advance | .dispatch _ _ | .send _ _ | .txNext | .handleNakQuery | .handleNakCommand | .reactError | .reactTimeout
  | .reactBusy => false

/-- What a step does next, with the state in which the head of the inputs has been taken off. -/
inductive Fetched where
  | nothing
  | arrival (b : Byte) (t : State)
  | operation (i : Instr) (t : State)
  | rejected (r : Refusal)

/-- A word on the host operation port: one of the eight host operations, or nothing the port has (60_exceptions.md R266). -/
def fetchCall (w : List Byte) (t : State) : Fetched :=
  match decode w with
  | .error e => .rejected (.undecodable e)
  | .ok i => if hostOperation i then .operation i t else .rejected .noPort

/-- A word of the model's own access: any row (log 5). -/
def fetchRow (w : List Byte) (t : State) : Fetched :=
  match decode w with
  | .error e => .rejected (.undecodable e)
  | .ok i => .operation i t

/-- The head of the inputs. -/
def fetchHead (s : State) : Fetched :=
  match s.inputs with
  | [] => .nothing
  | .call w :: rest => fetchCall w { s with inputs := rest }
  | .rxByte b :: rest => .arrival b { s with inputs := rest }
  | .row w :: rest => fetchRow w { s with inputs := rest }

/-- What a step does next; a run with parameters that are not well formed is refused (93 U6; log 17). -/
def fetch (s : State) : Fetched := if s.cfg.wf then fetchHead s else .rejected .parameters

/-- A row is presented before everything else that waits (log 5). -/
def presentRow (w : List Byte) (s : State) : State := { s with inputs := .row w :: s.inputs }

end Sys2Proof.Machine
end

