-- ==== Sys2Proof/Machine/Step.lean ====
section
/-! DEFINITION. One step of the machine: the next thing presented to the block is taken and dealt with (00_scope.md R15, R17; log 4). -/

namespace Sys2Proof.Machine

/-- One step. Nothing presented: the block holds its registers (60_exceptions.md R272). A byte: it arrives at the tail of `rx`
(20_memory.md R62). An operation: it runs to completion (00_scope.md R15). What no port takes, and a run with ill-formed parameters,
is refused. -/
def step (s : State) : Host.Outcome State Fault Refusal :=
  match fetch s with
  | .nothing => .next s
  | .arrival b t => .next (rxArrive [b] t)
  | .operation i t => exec i t
  | .rejected r => .refused r

/-- The word of an opcode-table row is put where the next step fetches. -/
def State.withFetchWord (s : State) (nbits w : Nat) : State := presentRow (tableWord nbits w) s

end Sys2Proof.Machine
end

