-- ==== Sys2Proof/Safety.lean ====
section
/-! DEFINITION. What the claims call a legal state and a run of the hardware, and the spec's names for the causes of a failure. -/

namespace Sys2Proof.Safety

open Sys2Proof.Machine

/-- The clauses of 10_state.md R42, R43 that speak of one state, and the legality of each element's value.
`cfgOk`: the parameters are well formed (00_scope.md R10). `cursorOk`: I-c. `bufOk`: I-d. `bufEmpty`: I-e and I-h.
`poolDistinct`: I-f. `poolCodes`, `poolSize`: 41_scheduler.md R171 (a), (c), (d), (e). `txCmdOk`: 10_state.md R30.
`coolOk`: 10_state.md R24. `cacheOk`: the canonical form of log 20. `diagOk`: 10_state.md R35, R41, present only if
`DIAG_PRESENT`. -/
structure Inv (s : State) : Prop where
  cfgOk : s.cfg.wf = true
  cursorOk : s.cursor ≤ s.pool.length
  bufOk : s.ftBuf.length ≤ rxMax
  bufEmpty : s.ftState = .queryAck ∨ s.ftState = .commandAck ∨ s.ftState = .queryStx → s.ftBuf = []
  poolDistinct : s.pool.Nodup
  poolSize : s.pool.length ≤ s.cfg.poolMax
  poolCodes : ∀ q ∈ s.pool, 1 ≤ q.length ∧ q.length ≤ maxCmdLen ∧ q ≠ s.cfg.cmdClimate ∧ q ≠ s.cfg.cmdSwing ∧ etxByte ∉ q
  txCmdOk : 1 ≤ s.txCmd.length ∧ s.txCmd.length ≤ maxCmdLen
  coolOk : s.ftState = .cooldown → s.ftCool = s.cfg.tTurnaround ∨ s.ftCool = s.cfg.tError
  cacheOk : cacheWf s.diffCache = true
  diagOk : s.cfg.diagPresent = false → s.diagMode = false ∧ s.diffCache = []

/-- The state that a frame of the bytes `frame` leaves when the idle link accepts it (40_transport.md R131): the buffer cleared,
`rx` flushed, the frame at the end of `tx`, the time stamped, the link in `st`. -/
def linkSent (s : State) (st : CommState) (frame : List Byte) : State :=
  { s with ftBuf := [], rx := [], tx := s.tx ++ frame, ftTLast := s.now, ftState := st }

/-- The state of an exchange that has ended in a cooldown of `len` units (40_transport.md R150). -/
def cooling (s : State) (len : Nat) : State := { s with ftCool := len, ftState := .cooldown }

/-- The operation of the `service` case that a state selects (40_transport.md R133 to R136). -/
def serviceOperation (s : State) : Instr :=
  if s.ftState = .idle then .serviceIdle
  else if s.ftState = .cooldown then .serviceCooldown
  else if s.cfg.tResponse ≤ (s.now - s.ftTLast).toNat then .serviceTimeout
  else .serviceReceive

/-- The operation of the selector's arm that a state selects (41_scheduler.md R178 to R182, R184). -/
def armOperation (s : State) : Instr :=
  if s.activateClimate then .cmdClimate
  else if s.activateSwingMode then .cmdSwing
  else if s.cursor < s.pool.length then .queryContinue
  else if s.refreshRequested then .queryStart
  else .idleNothing

/-- The operation of the receive handler that a link state, a byte and the buffer select (40_transport.md R137, R152). -/
def rxOperation (s : State) (b : Byte) : Instr :=
  match s.ftState with
  | .queryAck => if b = 0x06#8 then .rxQackAck else if b = 0x15#8 then .rxQackNak else .rxQackOther b
  | .commandAck => if b = 0x06#8 then .rxCackAck else if b = 0x15#8 then .rxCackNak else .rxCackOther b
  | .queryStx => if b = 0x02#8 then .rxQstxStx else if b = 0x06#8 then .rxQstxAck else .rxQstxOther b
  | .queryEtx =>
    if b ≠ 0x03#8 then .rxQetxData b
    else if s.ftBuf = [] then .rxQetxEtxEmpty
    else if s.ftBuf.getLast? = some (checksum s.ftBuf.dropLast) then .rxQetxEtxGood else .rxQetxEtxBad
  | .idle | .cooldown => .rxNotConsumed b

/-- The operation of the reaction to a result (41_scheduler.md R172, R185, R186; 42_decoder.md R210, R211). -/
def reactionOperation (r : Result) (s : State) : Instr :=
  match r with
  | .ack => if s.ftBuf = [] then .parseAckBare else .parseAckSplit
  | .idle => .txNext
  | .nak => if s.cursor < s.pool.length ∧ s.pool[s.cursor]? = some s.txCmd then .handleNakQuery else .handleNakCommand
  | .error => .reactError
  | .timeout => .reactTimeout
  | .busy => .reactBusy

/-- The operation of a decode-table row (30_encoding.md R110), for the payload `p`. -/
def familyOperation (f : Family) (p : List Byte) : Instr :=
  match f with
  | .basic => .rspBasic p
  | .swing => .rspSwing p
  | .tempCombined => .rspTempCombined p
  | .version => .rspVersion p
  | .fanMode => .rspFanMode p
  | .tempInside => .rspTempInside p
  | .tempCoil => .rspTempCoil p
  | .tempOutside => .rspTempOutside p
  | .fanRpm => .rspFanRpm p
  | .compressor => .rspCompressor p
  | .setpoint => .rspSetpoint p
  | .swingAngle => .rspSwingAngle p
  | .echoClimate => .echoClimate
  | .echoSwing => .echoSwing

/-- The operations of a list, one after the other; `none` where one of them stops. -/
def runAll : List Instr → State → Option State
  | [], s => some s
  | i :: rest, s =>
    match exec i s with
    | .next t => runAll rest t
    | .fault _ => none
    | .refused _ => none

/-- Whether an operation is `initialize`. -/
def isInit : Instr → Bool
  | .hostInit _ => true
  | _ => false

/-- What a port of the hardware can present: a call of the host or a received byte (00_scope.md R17, 60_exceptions.md R271). -/
def hardwareInput : Input → Bool
  | .call _ | .rxByte _ => true
  | .row _ => false

/-- A run of the hardware: everything that is presented comes through its ports, so that the block's only steps are the host
operations (00_scope.md R17). The model's own access to rows (log 5) takes no part in it. -/
def HardwareRun (s : State) : Prop := ∀ x ∈ s.inputs, hardwareInput x = true

/-- The operations that are an echo handler or the `Error` reaction, or can run one: the only ones, `initialize` apart, that clear an
activation flag (10_state.md R31). -/
def mayClearActivation : Instr → Bool
  | .echoClimate | .echoSwing | .dispatch _ _ | .parseAckBare | .parseAckSplit | .handleNakCommand | .reactError | .tick _ => true
  | .stx | .etx | .enq | .ack | .nak | .frameQ1 _ | .frameQ2 _ _ | .frameC1 _ _ | .frameC2 _ _ _ | .frameR _ | .checksum _
  | .encodeFrame _ _ | .cmdClimate | .cmdSwing | .queryContinue | .queryStart | .idleNothing | .ackEcho | .rxQackAck
  | .rxQackNak | .rxQackOther _ | .rxCackAck | .rxCackNak | .rxCackOther _ | .rxQstxStx | .rxQstxAck | .rxQstxOther _
  | .rxQetxData _ | .rxQetxEtxEmpty | .rxQetxEtxGood | .rxQetxEtxBad | .rxDispatch _ | .rxNotConsumed _
  | .sendFrameBusy _ _ | .sendFrameOk _ _ | .sendFrameBadLen _ _ | .serviceIdle | .serviceCooldown | .serviceReceive
  | .serviceTimeout | .complete _ _ | .rspBasic _ | .rspSwing _ | .rspTempCombined _ | .rspVersion _ | .rspFanMode _
  | .rspTempInside _ | .rspTempCoil _ | .rspTempOutside _ | .rspFanRpm _ | .rspCompressor _ | .rspSetpoint _
  | .rspSwingAngle _ | .rspUnknown _ _ | .rspShort _ _ | .advance | .send _ _ | .txNext | .handleNakQuery | .reactTimeout
  | .reactBusy | .requestClimateChange _ _ _ _ | .requestSwingChange _ _ | .requestRefresh | .setDiagMode _ | .isReady
  | .snapshot | .hostInit _ => false

/-- What the climate echo leaves: the four settings of `active` are those that were pending (42_decoder.md R226). -/
def climateEchoed (s t : State) : Prop :=
  t.active.powerOn = s.pending.powerOn ∧ t.active.mode = s.pending.mode ∧ t.active.setpoint = s.pending.setpoint ∧
    t.active.fan = s.pending.fan ∧ t.refreshRequested = true

/-- What the swing echo leaves: the two axes of `active` are those that were pending (42_decoder.md R227). -/
def swingEchoed (s t : State) : Prop :=
  t.active.swingV = s.pending.swingV ∧ t.active.swingH = s.pending.swingH ∧ t.refreshRequested = true

/-- What the `Error` reaction leaves in the Session's control registers (60_exceptions.md R255). -/
def scanAborted (t : State) : Prop :=
  t.cursor = t.pool.length ∧ t.activateClimate = false ∧ t.activateSwingMode = false ∧ t.refreshRequested = true

/-- The causes of the results that a received byte can raise (60_exceptions.md R251); the block stores none of them. -/
inductive Cause where
  | nakQuery | nakCommand | errAckByte | errStxByte | errOverflow | errEmptyFrame | errChecksum
deriving DecidableEq, Repr

/-- The cause a byte raises in a state, if it raises one, as the list of 60_exceptions.md R251 gives it by link state, byte and
buffer. -/
def causeOf (s : State) (b : Byte) : Option Cause :=
  match s.ftState with
  | .queryAck => if b = 0x15#8 then some .nakQuery else if b = 0x06#8 then none else some .errAckByte
  | .commandAck => if b = 0x15#8 then some .nakCommand else if b = 0x06#8 then none else some .errAckByte
  | .queryStx => if b = 0x02#8 ∨ b = 0x06#8 then none else some .errStxByte
  | .queryEtx =>
    if b ≠ 0x03#8 then if s.ftBuf.length < 7 then none else some .errOverflow
    else if s.ftBuf = [] then some .errEmptyFrame
    else if s.ftBuf.getLast? = some (checksum s.ftBuf.dropLast) then none else some .errChecksum
  | .idle | .cooldown => none

/-- The result a cause is reported as (60_exceptions.md R251). -/
def causeResult : Cause → Result
  | .nakQuery | .nakCommand => .nak
  | .errAckByte | .errStxByte | .errOverflow | .errEmptyFrame | .errChecksum => .error

/-- How long the link cools down after a cause (60_exceptions.md R251, its last column). -/
def causeCooldown (c : Config) : Cause → Nat
  | .nakQuery | .nakCommand => c.tTurnaround
  | .errAckByte | .errStxByte | .errOverflow | .errEmptyFrame | .errChecksum => c.tError

end Sys2Proof.Safety
end

