-- ==== Sys2Proof/Certificates/Slice0/Obligations.lean ====
section
/-! DEFINITION. The statements about the machine. A statement whose OBLIGATIONS.json entry has basis 'stated' formalises the rules it
cites; the others rest on the sections they cite or on a choice of the model, which their docstrings name. -/

open Sys2Proof Sys2Proof.Machine Sys2Proof.Safety

/-- STX, ETX, ENQ, ACK, NAK and FRAME.R complete in every state: the bytes are appended to rx in order and nothing else
changes. That these rows mean the arrival on the receive port is the model's reading (log 2). (30_encoding.md R90,
R94, 20_memory.md R62) -/
def Obligations.WireArrivalsAppendToRx : Prop :=
  ∀ s : State,
    exec .stx s = .next { s with rx := s.rx ++ [0x02#8] } ∧
    exec .etx s = .next { s with rx := s.rx ++ [0x03#8] } ∧
    exec .enq s = .next { s with rx := s.rx ++ [0x05#8] } ∧
    exec .ack s = .next { s with rx := s.rx ++ [0x06#8] } ∧
    exec .nak s = .next { s with rx := s.rx ++ [0x15#8] } ∧
    ∀ body : List Byte, exec (.frameR body) s = .next { s with rx := s.rx ++ ([0x02#8] ++ body ++ [0x03#8]) }

/-- FRAME.Q1, Q2, C1, C2 complete: in Idle the link accepts the frame (buffer cleared, rx flushed, the frame's bytes in
order STX, code, payload, checksum, ETX at the end of tx, time stamped, QueryAck or CommandAck, result Ack); in every
other link state nothing but the returned Busy. That these rows mean send_frame is the model's reading (log 2).
(30_encoding.md R91, R92, R93, 40_transport.md R130, R131) -/
def Obligations.FramesOfferedToTheLink : Prop :=
  ∀ (s : State) (c d : Byte) (p : Payload),
    (s.ftState = .idle →
      exec (.frameQ1 c) s = .next { linkSent s .queryAck [0x02#8, c, checksum [c], 0x03#8] with ret := .result .ack } ∧
      exec (.frameQ2 c d) s =
        .next { linkSent s .queryAck [0x02#8, c, d, checksum [c, d], 0x03#8] with ret := .result .ack } ∧
      exec (.frameC1 c p) s =
        .next { linkSent s .commandAck
          [0x02#8, c, p.p0, p.p1, p.p2, p.p3, checksum [c, p.p0, p.p1, p.p2, p.p3], 0x03#8] with ret := .result .ack } ∧
      exec (.frameC2 c d p) s =
        .next { linkSent s .commandAck
          [0x02#8, c, d, p.p0, p.p1, p.p2, p.p3, checksum [c, d, p.p0, p.p1, p.p2, p.p3], 0x03#8] with
          ret := .result .ack }) ∧
    (s.ftState ≠ .idle →
      exec (.frameQ1 c) s = .next { s with ret := .result .busy } ∧
      exec (.frameQ2 c d) s = .next { s with ret := .result .busy } ∧
      exec (.frameC1 c p) s = .next { s with ret := .result .busy } ∧
      exec (.frameC2 c d p) s = .next { s with ret := .result .busy })

/-- For every body CHECKSUM completes and returns the byte whose value is the sum of the bytes' values modulo 256, or 5
where that sum is 2; the returned byte is never 0x02; nothing but the return register changes. (30_encoding.md R96,
R97) -/
def Obligations.ChecksumIsEscapedByteSum : Prop :=
  ∀ (s : State) (body : List Byte), ∃ v : Byte,
    exec (.checksum body) s = .next { s with ret := .byte v } ∧
    v.toNat = (if (body.map BitVec.toNat).sum % 256 = 2 then 5 else (body.map BitVec.toNat).sum % 256) ∧
    v ≠ 0x02#8

/-- For every code and every payload, absent or present, ENCODE_FRAME completes and returns the bytes STX, the code, the
payload's four bytes in index order (none if absent), the checksum of code and payload, ETX; nothing but the return
register changes. (R98) -/
def Obligations.EncodeFrameLayout : Prop :=
  ∀ (s : State) (code : Code) (p : Payload),
    exec (.encodeFrame code none) s =
      .next { s with ret := .bytes ([0x02#8] ++ code ++ [checksum code] ++ [0x03#8]) } ∧
    exec (.encodeFrame code (some p)) s =
      .next { s with
        ret := .bytes ([0x02#8] ++ code ++ [p.p0, p.p1, p.p2, p.p3]
          ++ [checksum (code ++ [p.p0, p.p1, p.p2, p.p3])] ++ [0x03#8]) }

/-- With the link not idle SEND_FRAME.BUSY returns Busy and changes nothing else, whatever the code's length. With the
link idle and a code of 1 or 2 bytes SEND_FRAME.OK clears the buffer, flushes rx, appends the whole frame to tx,
stamps the time, enters QueryAck (no payload) or CommandAck (payload) and returns Ack. With the link idle and a code
of 0 or more than 2 bytes SEND_FRAME.BADLEN returns Error and changes nothing else. (R130, R131, R132) -/
def Obligations.SendFrameThreeCases : Prop :=
  ∀ (s : State) (code : Code) (p : Payload),
    (s.ftState ≠ .idle → ∀ q : Option Payload,
      exec (.sendFrameBusy code q) s = .next { s with ret := .result .busy }) ∧
    (s.ftState = .idle → 1 ≤ code.length → code.length ≤ 2 →
      exec (.sendFrameOk code none) s =
        .next { linkSent s .queryAck ([0x02#8] ++ code ++ [checksum code] ++ [0x03#8]) with ret := .result .ack } ∧
      exec (.sendFrameOk code (some p)) s =
        .next { linkSent s .commandAck
          ([0x02#8] ++ code ++ [p.p0, p.p1, p.p2, p.p3] ++ [checksum (code ++ [p.p0, p.p1, p.p2, p.p3])] ++ [0x03#8]) with
          ret := .result .ack }) ∧
    (s.ftState = .idle → code.length = 0 ∨ 2 < code.length → ∀ q : Option Payload,
      exec (.sendFrameBadLen code q) s = .next { s with ret := .result .error })

/-- In Idle SERVICE.IDLE returns Idle and changes nothing else. In Cooldown SERVICE.COOLDOWN writes Idle and returns Idle
once now minus ft.t_last (modulo 2^32) has reached ft.cool, else returns Busy and changes nothing else. In a receiving
state in which that difference has reached T_RESPONSE, SERVICE.TIMEOUT writes Idle, returns Timeout and changes
nothing else; rx is not read. (R133, R134, R136) -/
def Obligations.ServiceWithoutReadingBytes : Prop :=
  ∀ s : State,
    (s.ftState = .idle → exec .serviceIdle s = .next { s with ret := .result .idle }) ∧
    (s.ftState = .cooldown → s.ftCool ≤ (s.now - s.ftTLast).toNat →
      exec .serviceCooldown s = .next { s with ftState := .idle, ret := .result .idle }) ∧
    (s.ftState = .cooldown → (s.now - s.ftTLast).toNat < s.ftCool →
      exec .serviceCooldown s = .next { s with ret := .result .busy }) ∧
    (s.ftState ≠ .idle → s.ftState ≠ .cooldown → s.cfg.tResponse ≤ (s.now - s.ftTLast).toNat →
      exec .serviceTimeout s = .next { s with ftState := .idle, ret := .result .timeout })

/-- In a receiving state whose response timer has not run out SERVICE.RECEIVE completes. With rx empty it returns Busy and
changes nothing else. With rx beginning with b it pops b, stamps ft.t_last, runs handle_rx(b); if that is terminal it
stops there with that result and the rest of rx untouched, else it goes on as SERVICE.RECEIVE does from the state
reached. (R135) -/
def Obligations.ServiceConsumesRxByteByByte : Prop :=
  ∀ s : State, s.ftState ≠ .idle → s.ftState ≠ .cooldown → 0 < s.cfg.tResponse →
    (s.now - s.ftTLast).toNat < s.cfg.tResponse →
    (∃ u, exec .serviceReceive s = .next u) ∧
    (s.rx = [] → exec .serviceReceive s = .next { s with ret := .result .busy }) ∧
    ∀ (b : Byte) (rest : List Byte), s.rx = b :: rest →
      ∃ t, exec (.rxDispatch b) { s with rx := rest, ftTLast := s.now } = .next t ∧ t.rx = rest ∧
        (t.ret = .goOn → exec .serviceReceive s = exec .serviceReceive t) ∧
        (∀ r, t.ret = .result r → exec .serviceReceive s = .next t)

/-- In QueryAck: RX.QACK.ACK moves to QueryStx and continues; RX.QACK.NAK ends the exchange with Nak and the turnaround
cooldown; RX.QACK.OTHER, for every byte but ACK and NAK, ends it with Error and the error cooldown. Nothing else
changes; in particular nothing is transmitted. (R138, R139, R140) -/
def Obligations.QueryAckBytes : Prop :=
  ∀ s : State, s.ftState = .queryAck →
    exec .rxQackAck s = .next { s with ftState := .queryStx, ret := .goOn } ∧
    exec .rxQackNak s = .next { cooling s s.cfg.tTurnaround with ret := .result .nak } ∧
    ∀ b : Byte, b ≠ 0x06#8 → b ≠ 0x15#8 →
      exec (.rxQackOther b) s = .next { cooling s s.cfg.tError with ret := .result .error }

/-- In CommandAck: RX.CACK.ACK ends the exchange with Ack and the turnaround cooldown; RX.CACK.NAK with Nak and the
turnaround cooldown; RX.CACK.OTHER, for every byte but ACK and NAK, with Error and the error cooldown. Nothing else
changes; in particular nothing is transmitted. (R141, R142, R143) -/
def Obligations.CommandAckBytes : Prop :=
  ∀ s : State, s.ftState = .commandAck →
    exec .rxCackAck s = .next { cooling s s.cfg.tTurnaround with ret := .result .ack } ∧
    exec .rxCackNak s = .next { cooling s s.cfg.tTurnaround with ret := .result .nak } ∧
    ∀ b : Byte, b ≠ 0x06#8 → b ≠ 0x15#8 →
      exec (.rxCackOther b) s = .next { cooling s s.cfg.tError with ret := .result .error }

/-- In QueryStx: RX.QSTX.STX moves to QueryEtx and continues; RX.QSTX.ACK continues with nothing changed; RX.QSTX.OTHER,
for every byte but STX and ACK, ends the exchange with Error and the error cooldown. Nothing else changes. (R144,
R145, R146) -/
def Obligations.QueryStxBytes : Prop :=
  ∀ s : State, s.ftState = .queryStx →
    exec .rxQstxStx s = .next { s with ftState := .queryEtx, ret := .goOn } ∧
    exec .rxQstxAck s = .next { s with ret := .goOn } ∧
    ∀ b : Byte, b ≠ 0x02#8 → b ≠ 0x06#8 →
      exec (.rxQstxOther b) s = .next { cooling s s.cfg.tError with ret := .result .error }

/-- In QueryEtx RX.QETX.DATA, for every byte but ETX, appends the byte where the buffer holds fewer than 7 bytes and
continues; else it drops the byte and ends the exchange with Error and the error cooldown. Nothing else changes.
(R147) -/
def Obligations.QueryEtxDataByte : Prop :=
  ∀ (s : State) (b : Byte), s.ftState = .queryEtx → b ≠ 0x03#8 →
    (s.ftBuf.length < 7 → exec (.rxQetxData b) s = .next { s with ftBuf := s.ftBuf ++ [b], ret := .goOn }) ∧
    (7 ≤ s.ftBuf.length → exec (.rxQetxData b) s = .next { cooling s s.cfg.tError with ret := .result .error })

/-- In QueryEtx: with the buffer empty RX.QETX.ETX.EMPTY ends the exchange with Error and the error cooldown; with the
buffer body followed by t, RX.QETX.ETX.GOOD (t the checksum of body) leaves exactly body in the buffer, transmits one
ACK, and ends with Ack and the turnaround cooldown, and RX.QETX.ETX.BAD (t another byte) ends with Error and the error
cooldown, buffer and tx unchanged. (R148, R149, R151) -/
def Obligations.QueryEtxFrameEnd : Prop :=
  ∀ s : State, s.ftState = .queryEtx →
    (s.ftBuf = [] → exec .rxQetxEtxEmpty s = .next { cooling s s.cfg.tError with ret := .result .error }) ∧
    ∀ (body : List Byte) (t : Byte), s.ftBuf = body ++ [t] →
      (t = checksum body →
        exec .rxQetxEtxGood s =
          .next { cooling s s.cfg.tTurnaround with ftBuf := body, tx := s.tx ++ [0x06#8], ret := .result .ack }) ∧
      (t ≠ checksum body →
        exec .rxQetxEtxBad s = .next { cooling s s.cfg.tError with ret := .result .error })

/-- For every state and byte RX.DISPATCH completes and does exactly what the row selected by (link state, byte, buffer)
does; in Idle and Cooldown that row is RX.NOTCONSUMED, which completes and changes nothing but the return register
(that RX.DISPATCH may be offered there at all is the model's choice, log 28). (40_transport.md R137, R152,
30_encoding.md R114) -/
def Obligations.RxDispatchRunsTheSelectedHandler : Prop :=
  ∀ (s : State) (b : Byte),
    exec (.rxDispatch b) s = exec (rxOperation s b) s ∧
    (∃ t, exec (.rxDispatch b) s = .next t) ∧
    (s.ftState = .idle ∨ s.ftState = .cooldown → exec (.rxNotConsumed b) s = .next { s with ret := .goOn })

/-- COMPLETE writes ft.cool (T_TURNAROUND for Ack and Nak, T_ERROR for Error) and Cooldown, returns the result and changes
nothing else, ft.t_last included. ACK.ECHO, in QueryEtx with a buffer whose last byte is the checksum of those before
it, appends one ACK to tx and changes nothing else but the return register. That COMPLETE offered alone runs in every
link state, and that ACK.ECHO offered alone runs without the ETX, are the model's choices (logs 32, 33): R152 has no
such transitions. (40_transport.md R149, R150) -/
def Obligations.CompleteAndAckEcho : Prop :=
  ∀ s : State,
    exec (.complete .ack .turnaround) s = .next { cooling s s.cfg.tTurnaround with ret := .result .ack } ∧
    exec (.complete .nak .turnaround) s = .next { cooling s s.cfg.tTurnaround with ret := .result .nak } ∧
    exec (.complete .error .error) s = .next { cooling s s.cfg.tError with ret := .result .error } ∧
    ∀ body : List Byte, s.ftState = .queryEtx → s.ftBuf = body ++ [checksum body] →
      exec .ackEcho s = .next { s with tx := s.tx ++ [0x06#8], ret := .nothing }

/-- RSP.BASIC with a payload of at least 4 bytes: power_on is whether p[0] is '1'; mode and fan take the decoded value or
keep the old one where the byte decodes to none; the setpoint is (p[2]-28)*5; the fan is written only where support_RG
is false; Basic is marked; bytes from p[4] on are ignored; nothing else changes. (R214) -/
def Obligations.BasicStateResponse : Prop :=
  ∀ (s : State) (p0 p1 p2 p3 : Byte) (rest : List Byte),
    exec (.rspBasic (p0 :: p1 :: p2 :: p3 :: rest)) s =
      .next { s with
        active := { s.active with
          powerOn := decide (p0 = 0x31#8)
          mode := (s.cfg.modeOfByte p1).getD s.active.mode
          setpoint := BitVec.ofInt 16 (((p2.toNat : Int) - 28) * 5)
          fan := if s.supportRG then s.active.fan else (s.cfg.fanOfByte p3).getD s.active.fan }
        ready := { s.ready with basic := true }
        ret := .nothing }

/-- RSP.SWING with a payload of at least 1 byte: swing_v is bit 0 of p[0], swing_h is bit 1, Swing is marked, other bits
and bytes are ignored, nothing else changes. The bit assignment and the choice of p[0] are an inference that the spec
marks as its own: 'Bit assignment and the choice of `p[0]` are the spec's' (R215, D23). (42_decoder.md R215,
30_encoding.md R109) -/
def Obligations.SwingStateResponse : Prop :=
  ∀ (s : State) (p0 : Byte) (rest : List Byte),
    exec (.rspSwing (p0 :: rest)) s =
      .next { s with
        active := { s.active with
          swingV := decide (p0.toNat % 2 = 1)
          swingH := decide (p0.toNat / 2 % 2 = 1) }
        ready := { s.ready with swing := true }
        ret := .nothing }

/-- RSP.TEMP_COMBINED with a payload of at least 2 bytes writes temp_inside from p[0] and temp_outside from p[1], each ((b
div 2) - 64) * 10, whatever the capability flags are; RSP.VERSION changes no register. Nothing else changes. (R216,
R217) -/
def Obligations.CombinedTemperatureAndVersionResponses : Prop :=
  ∀ (s : State) (p0 p1 : Byte) (rest p : List Byte),
    exec (.rspTempCombined (p0 :: p1 :: rest)) s =
      .next { s with
        tempInside := BitVec.ofInt 16 ((((p0.toNat / 2 : Nat) : Int) - 64) * 10)
        tempOutside := BitVec.ofInt 16 ((((p1.toNat / 2 : Nat) : Int) - 64) * 10)
        ret := .nothing } ∧
    exec (.rspVersion p) s = .next { s with ret := .nothing }

/-- RSP.FAN_MODE with a payload of at least 1 byte: where FAN_DEC gives a fan setting for p[0], active.fan takes it and
support_RG becomes true; where it gives none, no register changes. Nothing else changes. (R218) -/
def Obligations.FanModeResponse : Prop :=
  ∀ (s : State) (p0 : Byte) (rest : List Byte),
    (∀ f, s.cfg.fanOfByte p0 = some f →
      exec (.rspFanMode (p0 :: rest)) s =
        .next { s with active := { s.active with fan := f }, supportRG := true, ret := .nothing }) ∧
    (s.cfg.fanOfByte p0 = none → exec (.rspFanMode (p0 :: rest)) s = .next { s with ret := .nothing })

/-- For a payload of at least 3 bytes with n the sum (p[0]-48) + 10(p[1]-48) + 100(p[2]-48), negated where a fourth byte
is '-': RSP.TEMP_INSIDE writes temp_inside and support_RH, RSP.TEMP_COIL temp_coil, RSP.TEMP_OUTSIDE temp_outside and
support_Ra, RSP.FAN_RPM fan_rpm with n*10, RSP.COMPRESSOR compressor_hz and the Compressor bit, RSP.SETPOINT
active.setpoint, RSP.SWING_ANGLE swing_vertical_angle. Nothing else changes. For bytes that are not digits, and for a
fan_rpm outside int16, 93 U2 and U3 leave the value open; there the model follows the spec's total formulas (log 13).
(42_decoder.md R219 to R225, 30_encoding.md R101, 00_scope.md R13) -/
def Obligations.NumericResponses : Prop :=
  ∀ (s : State) (d0 d1 d2 : Byte) (rest : List Byte) (n : Int),
    n = (if rest.head? = some 0x2D#8 then -1 else 1) *
      (((d0.toNat : Int) - 48) + 10 * ((d1.toNat : Int) - 48) + 100 * ((d2.toNat : Int) - 48)) →
    exec (.rspTempInside (d0 :: d1 :: d2 :: rest)) s =
      .next { s with tempInside := BitVec.ofInt 16 n, supportRH := true, ret := .nothing } ∧
    exec (.rspTempCoil (d0 :: d1 :: d2 :: rest)) s = .next { s with tempCoil := BitVec.ofInt 16 n, ret := .nothing } ∧
    exec (.rspTempOutside (d0 :: d1 :: d2 :: rest)) s =
      .next { s with tempOutside := BitVec.ofInt 16 n, supportRa := true, ret := .nothing } ∧
    exec (.rspFanRpm (d0 :: d1 :: d2 :: rest)) s = .next { s with fanRpm := BitVec.ofInt 16 (n * 10), ret := .nothing } ∧
    exec (.rspCompressor (d0 :: d1 :: d2 :: rest)) s =
      .next { s with
        compressorHz := BitVec.ofInt 16 n, ready := { s.ready with compressor := true }, ret := .nothing } ∧
    exec (.rspSetpoint (d0 :: d1 :: d2 :: rest)) s =
      .next { s with active := { s.active with setpoint := BitVec.ofInt 16 n }, ret := .nothing } ∧
    exec (.rspSwingAngle (d0 :: d1 :: d2 :: rest)) s =
      .next { s with swingVerticalAngle := BitVec.ofInt 16 n, ret := .nothing }

/-- ECHO.CLIMATE copies power_on, mode, setpoint (unrounded) and fan from pending to active, clears activate_climate and
sets refresh_requested; ECHO.SWING copies swing_v and swing_h, clears activate_swing_mode and sets refresh_requested.
Nothing else changes. (R226, R227) -/
def Obligations.EchoHandlers : Prop :=
  ∀ s : State,
    exec .echoClimate s =
      .next { s with
        active := { s.active with
          powerOn := s.pending.powerOn, mode := s.pending.mode, setpoint := s.pending.setpoint, fan := s.pending.fan }
        activateClimate := false
        refreshRequested := true
        ret := .nothing } ∧
    exec .echoSwing s =
      .next { s with
        active := { s.active with swingV := s.pending.swingV, swingH := s.pending.swingH }
        activateSwingMode := false
        refreshRequested := true
        ret := .nothing }

/-- For a code that is none of the fourteen: outside diagnostic mode RSP.UNKNOWN changes nothing. In diagnostic mode it
emits LogUnknown with the decoded number as a hint where there are 3 payload bytes; where the payload last seen with
the code is the same, nothing more; else it also emits LogChanged with the old payload, and the cache then holds the
new payload for this code and what it held for every other code. No other element changes. The hint for bytes that are
not digits is that of the total formula, the model's reading (log 13). (42_decoder.md R228, 30_encoding.md R101) -/
def Obligations.UnknownCodeIsASideChannel : Prop :=
  ∀ (s : State) (code : Code) (p : List Byte), code ∉ s.cfg.codes →
    (¬ (s.cfg.diagPresent = true ∧ s.diagMode = true) →
      exec (.rspUnknown code p) s = .next { s with ret := .nothing }) ∧
    (s.cfg.diagPresent = true ∧ s.diagMode = true → ∀ hint : Option Int,
      hint = (if 3 ≤ p.length then some (bytesToNum p) else none) →
      (cacheLookup code s.diffCache = some p →
        exec (.rspUnknown code p) s =
          .next { s with report := s.report ++ [.logUnknown code p hint], ret := .nothing }) ∧
      (cacheLookup code s.diffCache ≠ some p → ∃ cache,
        exec (.rspUnknown code p) s =
          .next { s with
            report := s.report ++ [.logUnknown code p hint, .logChanged code (cacheLookup code s.diffCache) p]
            diffCache := cache
            ret := .nothing } ∧
        cacheLookup code cache = some p ∧
        ∀ c, c ≠ code → cacheLookup c cache = cacheLookup c s.diffCache))

/-- Where the fourteen codes are distinct, for every row of the decode table and every payload shorter than the row's min:
the row's operation, RSP.SHORT and DISPATCH on the row's code all complete and change nothing but the return register.
That the row's own operation, offered a short payload, does so is the model's reading (log 21); R229 speaks of
dispatch. (42_decoder.md R229, R213) -/
def Obligations.ShortPayloadSkipsTheHandler : Prop :=
  ∀ (s : State) (f : Family) (p : List Byte), s.cfg.codes.Nodup → p.length < familyMin f →
    exec (familyOperation f p) s = .next { s with ret := .nothing } ∧
    exec (.rspShort (familyCode s.cfg f) p) s = .next { s with ret := .nothing } ∧
    exec (.dispatch (familyCode s.cfg f) p) s = .next { s with ret := .nothing }

/-- Where the fourteen codes are distinct: DISPATCH on a row's code does what the row's operation does where the payload
has the row's min, and what RSP.SHORT does where it has not; on any other code it does what RSP.UNKNOWN does. It
always completes. (R213) -/
def Obligations.DispatchSelectsByCode : Prop :=
  ∀ s : State, s.cfg.codes.Nodup →
    (∀ (f : Family) (p : List Byte), familyMin f ≤ p.length →
      exec (.dispatch (familyCode s.cfg f) p) s = exec (familyOperation f p) s) ∧
    (∀ (f : Family) (p : List Byte), p.length < familyMin f →
      exec (.dispatch (familyCode s.cfg f) p) s = exec (.rspShort (familyCode s.cfg f) p) s) ∧
    (∀ (code : Code) (p : List Byte), code ∉ s.cfg.codes →
      exec (.dispatch code p) s = exec (.rspUnknown code p) s) ∧
    ∀ (code : Code) (p : List Byte), ∃ t, exec (.dispatch code p) s = .next t

/-- With the buffer empty PARSE_ACK.BARE completes and does what DISPATCH does with tx_cmd and the empty payload; the
cursor keeps its value. (R210) -/
def Obligations.ParseAckBareDispatchesTheSentCode : Prop :=
  ∀ s : State, s.ftBuf = [] → ∃ t,
    exec .parseAckBare s = .next t ∧ exec (.dispatch s.txCmd []) s = .next t ∧ t.cursor = s.cursor

/-- With the buffer not empty and n the smaller of the lengths of tx_cmd and of the buffer, PARSE_ACK.SPLIT completes and
does what ADVANCE and then DISPATCH on the first n bytes as code and the rest as payload do. (R211) -/
def Obligations.ParseAckSplitAdvancesThenDispatches : Prop :=
  ∀ (s : State) (n : Nat), s.ftBuf ≠ [] → n = min s.txCmd.length s.ftBuf.length → ∃ a t,
    exec .advance s = .next a ∧
    exec (.dispatch (s.ftBuf.take n) (s.ftBuf.drop n)) a = .next t ∧
    exec .parseAckSplit s = .next t

/-- ADVANCE adds one to the cursor where it is below the pool's length and else leaves it; nothing else changes but the
return register. (R212) -/
def Obligations.AdvanceStopsAtEndOfPool : Prop :=
  ∀ s : State,
    (s.cursor < s.pool.length → exec .advance s = .next { s with cursor := s.cursor + 1, ret := .nothing }) ∧
    (s.pool.length ≤ s.cursor → exec .advance s = .next { s with ret := .nothing })

/-- SEND with the link idle and a code of 1 or 2 bytes has the effects of the accepted send_frame and writes the code to
tx_cmd; with the link not idle it returns Busy, with the link idle and an illegal length Error, and then changes
nothing else. That SEND leaves send_frame's result in the return register is the model's choice (log 35).
(41_scheduler.md R183, 40_transport.md R130 to R132) -/
def Obligations.SendRecordsOnlySentCodes : Prop :=
  ∀ (s : State) (code : Code) (p : Option Payload),
    (s.ftState = .idle → 1 ≤ code.length → code.length ≤ 2 → ∃ t,
      exec (.sendFrameOk code p) s = .next t ∧ exec (.send code p) s = .next { t with txCmd := code }) ∧
    (s.ftState ≠ .idle → exec (.send code p) s = .next { s with ret := .result .busy }) ∧
    (s.ftState = .idle → code.length = 0 ∨ 2 < code.length →
      exec (.send code p) s = .next { s with ret := .result .error })

/-- With activate_climate set, the link idle and a 2-byte command code, CMD.CLIMATE sends the command frame with the
payload power byte, mode byte, setpoint byte lo8(tdiv(r+3,5)+28) for the multiple r of 5 nearest to the pending
setpoint, fan byte, and writes tx_cmd; the flag, the cursor and all else keep their values. With the link not idle it
changes nothing. Outside 0 <= r <= 1135 the spec leaves the setpoint byte open (93 U1) and the model follows the
formula (log 12). That this row may be offered with the link not idle, where the spec does not evaluate the selector,
is the model's choice (log 34). (41_scheduler.md R178, R183, 30_encoding.md R99, R106, R107) -/
def Obligations.ClimateArmSendsTheBasicStateCommand : Prop :=
  ∀ (s : State) (r : Int) (pl : List Byte), s.activateClimate = true → s.cfg.cmdClimate.length = 2 →
    r % 5 = 0 → s.pending.setpoint.toInt - 2 ≤ r → r ≤ s.pending.setpoint.toInt + 2 →
    pl = [if s.pending.powerOn then 0x31#8 else 0x30#8, s.cfg.modeByte s.pending.mode,
      BitVec.ofInt 8 (Int.tdiv (r + 3) 5 + 28), s.cfg.fanByte s.pending.fan] →
    (s.ftState = .idle →
      exec .cmdClimate s =
        .next { linkSent s .commandAck
          ([0x02#8] ++ s.cfg.cmdClimate ++ pl ++ [checksum (s.cfg.cmdClimate ++ pl)] ++ [0x03#8]) with
          txCmd := s.cfg.cmdClimate, ret := .nothing }) ∧
    (s.ftState ≠ .idle → exec .cmdClimate s = .next { s with ret := .nothing })

/-- With activate_climate clear, activate_swing_mode set, the link idle and a 2-byte command code, CMD.SWING sends the
command frame with the payload '0000', '1?00', '2?00' or '7?00' for neither axis, vertical only, horizontal only,
both, and writes tx_cmd; all else keeps its value. With the link not idle it changes nothing. That this row may be
offered with the link not idle, where the spec does not evaluate the selector, is the model's choice (log 34).
(41_scheduler.md R179, R183, 30_encoding.md R108) -/
def Obligations.SwingArmSendsTheSwingCommand : Prop :=
  ∀ (s : State) (pl : List Byte), s.activateClimate = false → s.activateSwingMode = true → s.cfg.cmdSwing.length = 2 →
    pl = (match s.pending.swingV, s.pending.swingH with
      | false, false => [0x30#8, 0x30#8, 0x30#8, 0x30#8]
      | true, false => [0x31#8, 0x3F#8, 0x30#8, 0x30#8]
      | false, true => [0x32#8, 0x3F#8, 0x30#8, 0x30#8]
      | true, true => [0x37#8, 0x3F#8, 0x30#8, 0x30#8]) →
    (s.ftState = .idle →
      exec .cmdSwing s =
        .next { linkSent s .commandAck
          ([0x02#8] ++ s.cfg.cmdSwing ++ pl ++ [checksum (s.cfg.cmdSwing ++ pl)] ++ [0x03#8]) with
          txCmd := s.cfg.cmdSwing, ret := .nothing }) ∧
    (s.ftState ≠ .idle → exec .cmdSwing s = .next { s with ret := .nothing })

/-- With no activation pending, the cursor below the pool's length at the query q, q of 1 or 2 bytes and the link idle,
QUERY.CONTINUE sends the query frame of q and writes tx_cmd; the cursor, the pool and all else keep their values. With
the link not idle it changes nothing. That this row may be offered with the link not idle, where the spec does not
evaluate the selector, is the model's choice (log 34). (41_scheduler.md R180, R183) -/
def Obligations.ContinueArmResendsTheCurrentQuery : Prop :=
  ∀ (s : State) (q : Code), s.activateClimate = false → s.activateSwingMode = false →
    s.cursor < s.pool.length → s.pool[s.cursor]? = some q → 1 ≤ q.length → q.length ≤ 2 →
    (s.ftState = .idle →
      exec .queryContinue s =
        .next { linkSent s .queryAck ([0x02#8] ++ q ++ [checksum q] ++ [0x03#8]) with txCmd := q, ret := .nothing }) ∧
    (s.ftState ≠ .idle → exec .queryContinue s = .next { s with ret := .nothing })

/-- With no activation pending, the cursor at the pool's length and a refresh requested, and with pool' the pool without
Q_TEMP_COMBINED where support_RH and support_Ra are both set and the pool itself else: QUERY.START leaves pool',
cursor 0 and the flag clear; where pool' is empty nothing is sent; where it begins with q (1 or 2 bytes) and the link
is idle the query frame of q is sent and tx_cmd is q; where the link is not idle nothing is sent and tx_cmd keeps its
value. Nothing else changes. That this row may be offered with the link not idle, where the spec does not evaluate the
selector, is the model's choice (log 34). (41_scheduler.md R181, R183, 20_memory.md R74) -/
def Obligations.StartArmPrunesAndRestartsTheScan : Prop :=
  ∀ (s : State) (pool' : List Code), s.activateClimate = false → s.activateSwingMode = false →
    s.cursor = s.pool.length → s.refreshRequested = true →
    pool' = (if s.supportRH = true ∧ s.supportRa = true then s.pool.erase s.cfg.qTempCombined else s.pool) →
    (pool' = [] →
      exec .queryStart s = .next { s with pool := [], cursor := 0, refreshRequested := false, ret := .nothing }) ∧
    ∀ (q : Code) (rest : List Code), pool' = q :: rest → 1 ≤ q.length → q.length ≤ 2 →
      (s.ftState = .idle → exec .queryStart s =
        .next { linkSent s .queryAck ([0x02#8] ++ q ++ [checksum q] ++ [0x03#8]) with
          pool := pool', cursor := 0, refreshRequested := false, txCmd := q, ret := .nothing }) ∧
      (s.ftState ≠ .idle → exec .queryStart s =
        .next { s with pool := pool', cursor := 0, refreshRequested := false, ret := .nothing })

/-- TX_NEXT completes in every state and does exactly what the arm selected by strict priority (climate, swing, continue,
start, nothing) does; it sends nothing, or one frame, and a frame only with the link idle. With no activation pending,
the cursor at or past the pool's length and no refresh requested, IDLE.NOTHING completes and changes nothing but the
return register. That TX_NEXT and the arm rows may be offered with the link not idle, where the spec does not evaluate
the selector, is the model's choice (log 34). (41_scheduler.md R178 to R182, R184) -/
def Obligations.SelectorFiresOneArmByPriority : Prop :=
  ∀ s : State,
    (∃ t, exec .txNext s = .next t ∧ exec (armOperation s) s = .next t ∧
      (t.tx = s.tx ∨ (s.ftState = .idle ∧ ∃ (code : Code) (p : Option Payload), 1 ≤ code.length ∧ code.length ≤ 2 ∧
        t.tx = s.tx ++ encodeFrame code p))) ∧
    (s.activateClimate = false → s.activateSwingMode = false → s.pool.length ≤ s.cursor → s.refreshRequested = false →
      exec .idleNothing s = .next { s with ret := .nothing })

/-- Where the cursor is below the pool's length and the entry there is tx_cmd, HANDLE_NAK.QUERY completes; the pool loses
exactly that entry: its length drops by one, entries before the cursor keep their index, later ones move down by one,
and with distinct entries tx_cmd is in the pool no more; the cursor and everything else keep their values. (R185,
R189) -/
def Obligations.NakRemovesTheCurrentQuery : Prop :=
  ∀ s : State, s.cursor < s.pool.length → s.pool[s.cursor]? = some s.txCmd → ∃ pool',
    exec .handleNakQuery s = .next { s with pool := pool', ret := .nothing } ∧
    pool'.length + 1 = s.pool.length ∧
    (∀ i, i < s.cursor → pool'[i]? = s.pool[i]?) ∧
    (∀ i, s.cursor ≤ i → pool'[i]? = s.pool[i + 1]?) ∧
    (s.pool.Nodup → s.txCmd ∉ pool')

/-- Where tx_cmd is not the entry at the cursor (or the cursor is at the end) HANDLE_NAK.COMMAND completes and does what
parse_ack does: PARSE_ACK.BARE with the buffer empty, PARSE_ACK.SPLIT else. With the buffer empty, distinct codes and
tx_cmd the climate or the swing command that is the echo handler. (R186) -/
def Obligations.NakOfACommandAppliesItLocally : Prop :=
  ∀ s : State, ¬ (s.cursor < s.pool.length ∧ s.pool[s.cursor]? = some s.txCmd) →
    (s.ftBuf = [] → ∃ t, exec .handleNakCommand s = .next t ∧ exec .parseAckBare s = .next t) ∧
    (s.ftBuf ≠ [] → ∃ t, exec .handleNakCommand s = .next t ∧ exec .parseAckSplit s = .next t) ∧
    (s.ftBuf = [] → s.cfg.codes.Nodup → s.txCmd = s.cfg.cmdClimate → exec .handleNakCommand s = exec .echoClimate s) ∧
    (s.ftBuf = [] → s.cfg.codes.Nodup → s.txCmd = s.cfg.cmdSwing → exec .handleNakCommand s = exec .echoSwing s)

/-- REACT.ERROR sets the cursor to the pool's length, clears both activation flags and sets refresh_requested; pending,
active, the pool, the sensors, the capability flags, the readiness bits, tx_cmd and the link keep their values.
REACT.TIMEOUT emits TickResult(Timeout) and changes nothing else; REACT.BUSY changes nothing. That REACT.TIMEOUT
itself emits the TickResult(Timeout) of its tick is the model's reading of 'report only' (log 19). (60_exceptions.md
R255, R256, R257, R270) -/
def Obligations.ReactionsToErrorTimeoutBusy : Prop :=
  ∀ s : State,
    exec .reactError s =
      .next { s with
        cursor := s.pool.length
        activateClimate := false
        activateSwingMode := false
        refreshRequested := true
        ret := .nothing } ∧
    exec .reactTimeout s = .next { s with report := s.report ++ [.tickResult .timeout], ret := .nothing } ∧
    exec .reactBusy s = .next { s with ret := .nothing }

/-- For a legal query set initialize completes: the pool is the query set, the cursor is at its end, the link is Idle with
an empty buffer, a refresh is requested, all other flags are clear, readiness is empty, active and pending are the
defaults, the sensor registers are 0, the diff cache is empty, rx and tx are unchanged; ft.t_last, ft.cool and tx_cmd
(unspecified) are only claimed to exist, tx_cmd with 1 or 2 bytes. (R46) -/
def Obligations.InitializeEstablishesResetState : Prop :=
  ∀ (s : State) (q : List Code), s.cfg.querySetOk q = true → ∃ (tl : Time) (co : Nat) (cmd : Code) (n : Nat),
    exec (.hostInit q) s =
      .next {
        ftState := .idle, ftBuf := [], ftTLast := tl, ftCool := co, rx := s.rx, tx := s.tx, now := s.now
        pool := q, cursor := q.length, txCmd := cmd
        activateClimate := false, activateSwingMode := false, refreshRequested := true
        supportRH := false, supportRa := false, supportRG := false
        ready := { basic := false, swing := false, compressor := false }
        diagMode := false
        active :=
          { powerOn := false, mode := .disabled, setpoint := 0#16, fan := .auto, swingV := false, swingH := false }
        pending :=
          { powerOn := false, mode := .disabled, setpoint := 0#16, fan := .auto, swingV := false, swingH := false }
        tempInside := 0#16, tempOutside := 0#16, tempCoil := 0#16
        fanRpm := 0#16, compressorHz := 0#16, swingVerticalAngle := 0#16
        diffCache := []
        report := s.report, ret := .nothing, inputs := s.inputs, cfg := s.cfg, freeCount := n } ∧
    1 ≤ cmd.length ∧ cmd.length ≤ 2

/-- initialize completes where every entry has 1 or 2 bytes, the entries are pairwise distinct, there are at most
POOL_MAX, none is a command code and none contains ETX; in every other case it is refused by name, as the rule asks of
a model. (R171) -/
def Obligations.InitializeRefusesIllegalQuerySets : Prop :=
  ∀ (s : State) (q : List Code) (legal : Prop),
    (legal ↔ (∀ e ∈ q, 1 ≤ e.length ∧ e.length ≤ 2) ∧ q.Nodup ∧ q.length ≤ s.cfg.poolMax ∧
      (∀ e ∈ q, e ≠ s.cfg.cmdClimate ∧ e ≠ s.cfg.cmdSwing) ∧ ∀ e ∈ q, (0x03#8 : Byte) ∉ e) →
    (legal → ∃ t, exec (.hostInit q) s = .next t) ∧
    (¬ legal → exec (.hostInit q) s = .refused .querySet)

/-- tick(t) completes in every state, a clock that goes back included (log 14, the model's reading). With now = t, it runs
the service case the state selects, giving a result r and a state a; then the reaction to r in a (parse_ack, tx_next,
handle_nak, the error, timeout or busy reaction), giving b; what it leaves is b with TickResult(r) appended to b's
report, or b's report as it is where r is Timeout, whose reaction has emitted TickResult(Timeout) (log 19, the model's
reading); before that one TickResult b's report has, after what stood there before the tick, log events only.
(41_scheduler.md R172, 60_exceptions.md R256, R270) -/
def Obligations.TickIsServiceThenReaction : Prop :=
  ∀ (s : State) (t : Time), ∃ a r b logs,
    exec (serviceOperation { s with now := t }) { s with now := t } = .next a ∧ a.ret = .result r ∧
    exec (reactionOperation r a) a = .next b ∧
    b.report = s.report ++ logs ++ (if r = .timeout then [.tickResult .timeout] else []) ∧
    (∀ e ∈ logs, ∀ r', e ≠ .tickResult r') ∧
    exec (.tick t) s =
      .next { b with report := b.report ++ (if r = .timeout then [] else [.tickResult r]), ret := .nothing }

/-- request_climate_change writes power_on, mode, setpoint and fan of pending and sets activate_climate;
request_swing_change writes swing_v and swing_h and sets activate_swing_mode; request_refresh sets refresh_requested.
Each completes in every state and changes nothing else. (R173, R174, R175) -/
def Obligations.HostRequests : Prop :=
  ∀ (s : State) (power vertical horizontal : Bool) (mode : Mode) (setpoint : Sys2Proof.Int16) (fan : Fan),
    exec (.requestClimateChange power mode setpoint fan) s =
      .next { s with
        pending := { s.pending with powerOn := power, mode := mode, setpoint := setpoint, fan := fan }
        activateClimate := true
        ret := .nothing } ∧
    exec (.requestSwingChange vertical horizontal) s =
      .next { s with
        pending := { s.pending with swingV := vertical, swingH := horizontal }
        activateSwingMode := true
        ret := .nothing } ∧
    exec .requestRefresh s = .next { s with refreshRequested := true, ret := .nothing }

/-- Where diagnostics are present set_diag_mode writes diag_mode and nothing else. is_ready returns whether Basic, Swing
and Compressor have all been observed; snapshot returns active, the six sensor registers, the three capability flags
and the readiness bits; both complete in every state and change nothing but the return register. (R176, R177, R187) -/
def Obligations.DiagnosticSwitchAndReads : Prop :=
  ∀ (s : State) (b : Bool),
    (s.cfg.diagPresent = true → exec (.setDiagMode b) s = .next { s with diagMode := b, ret := .nothing }) ∧
    exec .isReady s = .next { s with ret := .bool (s.ready.basic && s.ready.swing && s.ready.compressor) } ∧
    exec .snapshot s =
      .next { s with ret := .snap {
        active := s.active, tempInside := s.tempInside, tempOutside := s.tempOutside, tempCoil := s.tempCoil
        fanRpm := s.fanRpm, compressorHz := s.compressorHz, swingVerticalAngle := s.swingVerticalAngle
        supportRH := s.supportRH, supportRa := s.supportRa, supportRG := s.supportRG, ready := s.ready } }

/-- With well-formed parameters: where the head of the inputs is a call of the host port that decodes to a host operation
i, or a row of the model's own access that decodes to any operation i, the step is exec of i on the state with that
entry taken off; where the word does not decode, the step is refused with the decoder's reason; where the head is a
received byte, it is appended to rx; with no input the state is unchanged. With ill-formed parameters every step is
refused. The list of inputs and the access to rows are the model's (logs 4, 5), the refusal is that of 93 U6 (log 17).
(00_scope.md R10, R15, R17, 20_memory.md R62, 60_exceptions.md R266, R272) -/
def Obligations.StepRunsTheDecodedOperation : Prop :=
  ∀ s : State,
    (s.cfg.wf = true →
      (∀ w rest i, s.inputs = .call w :: rest → decode w = .ok i → hostOperation i = true →
        step s = exec i { s with inputs := rest }) ∧
      (∀ w rest i, s.inputs = .row w :: rest → decode w = .ok i → step s = exec i { s with inputs := rest }) ∧
      (∀ w rest e, s.inputs = .call w :: rest ∨ s.inputs = .row w :: rest → decode w = .error e →
        step s = .refused (.undecodable e)) ∧
      (∀ b rest, s.inputs = .rxByte b :: rest → step s = .next { s with inputs := rest, rx := s.rx ++ [b] }) ∧
      (s.inputs = [] → step s = .next s)) ∧
    (s.cfg.wf = false → step s = .refused .parameters)

/-- With well-formed parameters a call that decodes to an operation other than the eight of R15 is refused (noPort); one
of the eight is accepted in every state, but for initialize with an illegal query set and, which is the model's
reading (log 16), set_diag_mode where diagnostics are absent. A run of the hardware, in which everything comes through
the ports, stays one, and never meets a row that the block would not select. The refusals' names and the access to
rows that such a run leaves out are the model's (logs 5, 6). (00_scope.md R15, R17, 60_exceptions.md R266, R271,
41_scheduler.md R171, R176) -/
def Obligations.HostPortOffersTheEightOperations : Prop :=
  ∀ s : State,
    (∀ w rest i, s.cfg.wf = true → s.inputs = .call w :: rest → decode w = .ok i →
      (hostOperation i = true ↔
        (∃ q, i = .hostInit q) ∨ (∃ t, i = .tick t) ∨ (∃ pw m sp f, i = .requestClimateChange pw m sp f) ∨
        (∃ v h, i = .requestSwingChange v h) ∨ i = .requestRefresh ∨ (∃ b, i = .setDiagMode b) ∨ i = .isReady ∨
        i = .snapshot) ∧
      (hostOperation i = false → step s = .refused .noPort) ∧
      (hostOperation i = true →
        (∃ t, step s = .next t) ∨
        (∃ q, i = .hostInit q ∧ s.cfg.querySetOk q = false ∧ step s = .refused .querySet) ∨
        (∃ b, i = .setDiagMode b ∧ s.cfg.diagPresent = false ∧ step s = .refused .absent))) ∧
    (∀ b, s.cfg.diagPresent = false → exec (.setDiagMode b) s = .refused .absent) ∧
    (HardwareRun s → step s ≠ .refused .notSelected ∧ ∀ t, step s = .next t → HardwareRun t)

/-- 02 46 31 77 03 is the query F1; 02 41 41 03 the query A; the climate command of vector V-F7 and the swing command of
V-W4 are command frames; 06 is ACK; a frame with a wrong checksum is rejected; so is C7 02 00, a word of the model's
own operation port (log 1) with an operand byte outside its field. (30_encoding.md R90, R91, R92, R93, R96) -/
def Obligations.DecodesWordsWrittenFromTheSpec : Prop :=
  decode [0x02#8, 0x46#8, 0x31#8, 0x77#8, 0x03#8] = .ok (.frameQ2 0x46#8 0x31#8) ∧
  decode [0x02#8, 0x41#8, 0x41#8, 0x03#8] = .ok (.frameQ1 0x41#8) ∧
  decode [0x02#8, 0x44#8, 0x31#8, 0x31#8, 0x33#8, 0x4E#8, 0x41#8, 0x68#8, 0x03#8] =
    .ok (.frameC2 0x44#8 0x31#8 ⟨0x31#8, 0x33#8, 0x4E#8, 0x41#8⟩) ∧
  decode [0x02#8, 0x44#8, 0x35#8, 0x37#8, 0x3F#8, 0x30#8, 0x30#8, 0x4F#8, 0x03#8] =
    .ok (.frameC2 0x44#8 0x35#8 ⟨0x37#8, 0x3F#8, 0x30#8, 0x30#8⟩) ∧
  decode [0x06#8] = .ok .ack ∧
  decode [0x02#8, 0x46#8, 0x31#8, 0x78#8, 0x03#8] = .error .badChecksum ∧
  decode [0xC7#8, 0x02#8, 0x00#8] = .error .badOperand

/-- For every well-formed operation with every value of its operands, decode of encode is the operation: no operand is
dropped and no two well-formed operations share a word. The port words of rows without a wire pattern are the model's
(log 1). (30_encoding.md R91 to R94, R98, 00_scope.md R5) -/
def Obligations.DecodeOfEncode : Prop :=
  ∀ i : Instr, i.wf = true → decode (encode i) = .ok i

/-- Whatever bytes the decoder accepts, the operation is well formed and its encoding is those bytes: the decoder reads
every byte, and no operation has two words. The port words of rows without a wire pattern are the model's (log 1).
(30_encoding.md R91 to R94, R96, R98, 00_scope.md R5) -/
def Obligations.EncodeOfDecode : Prop :=
  ∀ (w : List Byte) (i : Instr), decode w = .ok i → i.wf = true ∧ encode i = w

/-- From every state with the spec's invariants (cursor within the pool, buffer at most 7 bytes and empty in QueryAck,
CommandAck and QueryStx, pool distinct, legal and within POOL_MAX, tx_cmd of 1 or 2 bytes, a cooldown of one of the
two lengths, a canonical diff cache, diagnostics absent where not present, well-formed parameters), whatever is
presented, a step that answers a next state answers one with them. (10_state.md R42, R43, R24, R28, R30, R35, R41,
41_scheduler.md R171) -/
def Obligations.StepKeepsLegalStates : Prop :=
  ∀ s t : State, Inv s → step s = .next t → Inv t

/-- The state right after initialize(QUERY_SET) has all the invariants, whatever the well-formed parameters are. (The
values of the elements R46 leaves unspecified are the model's, log 8.) (10_state.md R42, R43, R46) -/
def Obligations.InitialStatesAreLegal : Prop :=
  ∀ c : Config, c.wf = true → Inv (State.initial c)

/-- State.reset has all the invariants. It holds the parameter instance of log 7, which is the model's choice.
(10_state.md R42, R43, R46) -/
def Obligations.ResetStateIsLegal : Prop :=
  Inv State.reset

/-- For every code of 1 or 2 bytes and payload of 0 or 4 bytes with no ETX byte in code, payload or checksum: with the
encoded frame at the head of rx, the link in QueryStx with an empty buffer and the response timer running,
SERVICE.RECEIVE consumes exactly the frame, leaves the code and payload in the buffer, transmits one ACK, stamps the
time, enters the turnaround cooldown and returns Ack; nothing else changes. (R117) -/
def Obligations.ResponseFrameRoundTrip : Prop :=
  ∀ (s : State) (code : Code) (p : Option Payload) (rest : List Byte),
    1 ≤ code.length → code.length ≤ 2 →
    (0x03#8 : Byte) ∉ code ++ payloadBytes p ++ [checksum (code ++ payloadBytes p)] →
    s.ftState = .queryStx → s.ftBuf = [] → (s.now - s.ftTLast).toNat < s.cfg.tResponse →
    s.rx = encodeFrame code p ++ rest →
    exec .serviceReceive s =
      .next { cooling s s.cfg.tTurnaround with
        ftBuf := code ++ payloadBytes p
        ftTLast := s.now
        rx := rest
        tx := s.tx ++ [0x06#8]
        ret := .result .ack }

/-- A body whose byte sum is 0x02 is given the checksum byte 0x05. A received frame with body B and trailing byte t is
acknowledged on its ETX iff the sum of B is not 0x02 and t is that sum, or the sum is 0x02 and t is 0x05. (R118) -/
def Obligations.ChecksumEscapeLaw : Prop :=
  ∀ (s : State) (body : List Byte) (t : Byte) (sum : Nat), sum = (body.map BitVec.toNat).sum % 256 →
    (sum = 2 → exec (.checksum body) s = .next { s with ret := .byte 0x05#8 }) ∧
    (s.ftState = .queryEtx → s.ftBuf = body ++ [t] → ∃ u, exec (.rxDispatch 0x03#8) s = .next u ∧
      (u.ret = .result .ack ↔ (sum ≠ 2 ∧ t.toNat = sum) ∨ (sum = 2 ∧ t = 0x05#8)))

/-- For every integer from -999 to 999 bytes_to_num of num_to_bytes is the number, and its four bytes are the digits least
significant first and the sign. (R102) -/
def Obligations.NumberCodecInverse : Prop :=
  ∀ n : Int, -999 ≤ n → n ≤ 999 →
    bytesToNum (numToBytes n) = n ∧
    (numToBytes n).map BitVec.toNat =
      [48 + n.natAbs % 10, 48 + n.natAbs / 10 % 10, 48 + n.natAbs / 100, if n < 0 then 0x2D else 0x2B]

/-- For every integer v of tenths and r the multiple of 5 within 2 of it, 0 to 1135: the setpoint byte of v is r/5 + 28
and decodes to r. The decoded value of any byte b, 0 to 255, is (b - 28) * 5. (30_encoding.md R99, R100) -/
def Obligations.SetpointCodecRoundTrip : Prop :=
  (∀ v r : Int, r % 5 = 0 → v - 2 ≤ r → r ≤ v + 2 → 0 ≤ r → r ≤ 1135 →
    ((setpointByte v).toNat : Int) = r / 5 + 28 ∧ setpointOfByte (setpointByte v) = r) ∧
  ∀ b : Byte, setpointOfByte b = ((b.toNat : Int) - 28) * 5

/-- In Idle with activate_climate set, a tick sends the climate command frame built from pending, whatever the scan's
position, and leaves cursor, pool and flag. In CommandAck with that command sent, an ACK (or a NAK, where the command
code is not at the cursor) at the head of rx in time makes the tick copy pending to active, clear the flag and request
a refresh with cursor and pool unchanged. A setpoint outside the domain of R99 (log 12) and a clock that goes back
(log 14) are covered as the model reads them. (41_scheduler.md R188, R172, R178, 42_decoder.md R226) -/
def Obligations.ClimateCommandBeforeScan : Prop :=
  ∀ (s : State) (t : Time),
    (s.ftState = .idle → s.activateClimate = true → s.cfg.cmdClimate.length = 2 → ∃ u,
      exec (.tick t) s = .next u ∧ u.tx = s.tx ++ encodeFrame s.cfg.cmdClimate (some (climatePayload s.cfg s.pending)) ∧
      u.ftState = .commandAck ∧ u.txCmd = s.cfg.cmdClimate ∧ u.cursor = s.cursor ∧ u.pool = s.pool ∧
      u.activateClimate = true) ∧
    (∀ (b : Byte) (rest : List Byte), s.ftState = .commandAck → s.ftBuf = [] → s.txCmd = s.cfg.cmdClimate →
      s.cfg.codes.Nodup → (t - s.ftTLast).toNat < s.cfg.tResponse → s.rx = b :: rest →
      b = 0x06#8 ∨ (b = 0x15#8 ∧ s.pool[s.cursor]? ≠ some s.txCmd) → ∃ u,
      exec (.tick t) s = .next u ∧ u.activateClimate = false ∧ u.refreshRequested = true ∧
      u.active = { s.active with
        powerOn := s.pending.powerOn, mode := s.pending.mode, setpoint := s.pending.setpoint, fan := s.pending.fan } ∧
      u.cursor = s.cursor ∧ u.pool = s.pool ∧ u.ftState = .cooldown ∧ u.rx = rest)

/-- For every run of operations without initialize that begins with an RSP.FAN_MODE whose byte decodes, no RSP.BASIC after
it changes active.fan. There is no such gate on temperatures: after an RSP.TEMP_INSIDE at any point of such a run, an
RSP.TEMP_COMBINED with 2 payload bytes writes temp_inside from its first byte. Runs leave initialize out because it
clears the capability flag (R43 I-i, R282). (42_decoder.md R230, R216, 10_state.md R43 (I-i), 70_reset_and_hazards.md
R282) -/
def Obligations.FanGateHoldsForEver : Prop :=
  (∀ (s t u : State) (b : Byte) (rest p : List Byte) (run : List Instr),
    (s.cfg.fanOfByte b).isSome = true → run.all (fun i => !isInit i) = true →
    runAll (.rspFanMode (b :: rest) :: run) s = some t → exec (.rspBasic p) t = .next u →
    u.active.fan = t.active.fan) ∧
  (∀ (s t : State) (p0 p1 : Byte) (rest p : List Byte) (run : List Instr),
    run.all (fun i => !isInit i) = true → runAll (.rspTempInside p :: run) s = some t → ∃ u,
    exec (.rspTempCombined (p0 :: p1 :: rest)) t = .next u ∧
    u.tempInside = BitVec.ofInt 16 ((((p0.toNat / 2 : Nat) : Int) - 64) * 10))

/-- For every operation but initialize, if it answers a next state: capability flags and readiness bits that were set are
still set, the new pool is a sublist of the old one, and the parameters, the inputs and the count of free values are
unchanged (the last three are the model's own fields). An activation flag that was set is still set after every
operation that is no echo handler, no Error reaction and runs none; and where one of those clears it, the state shows
the echo (active holds what was pending, a refresh is requested) or the Error reaction (cursor at the end, both flags
clear, a refresh requested). (10_state.md R28, R31, R33, R34, R42 (I-b), R43 (I-g, I-i), 70_reset_and_hazards.md R282) -/
def Obligations.OnlyInitializeForgets : Prop :=
  ∀ (i : Instr) (s t : State), isInit i = false → exec i s = .next t →
    (s.supportRH = true → t.supportRH = true) ∧ (s.supportRa = true → t.supportRa = true) ∧
    (s.supportRG = true → t.supportRG = true) ∧
    (s.ready.basic = true → t.ready.basic = true) ∧ (s.ready.swing = true → t.ready.swing = true) ∧
    (s.ready.compressor = true → t.ready.compressor = true) ∧
    t.pool.Sublist s.pool ∧ t.cfg = s.cfg ∧ t.inputs = s.inputs ∧ t.freeCount = s.freeCount ∧
    (mayClearActivation i = false → (s.activateClimate = true → t.activateClimate = true) ∧
      (s.activateSwingMode = true → t.activateSwingMode = true)) ∧
    (s.activateClimate = true → t.activateClimate = true ∨ climateEchoed s t ∨ scanAborted t) ∧
    (s.activateSwingMode = true → t.activateSwingMode = true ∨ swingEchoed s t ∨ scanAborted t)

/-- PARSE_ACK.BARE with an empty buffer and PARSE_ACK.SPLIT with a non-empty one complete, and then: tx, rx, the link
state, buffer, timestamp and cooldown, the pool, tx_cmd, pending and diag_mode are unchanged; an activation flag is
set only if it was; capability flags and readiness bits stay set; at most one activation flag is cleared; the refresh
flag is not cleared. (R231) -/
def Obligations.ParseAckNeverTouchesTheLink : Prop :=
  ∀ s : State, ∃ t, exec (if s.ftBuf = [] then .parseAckBare else .parseAckSplit) s = .next t ∧
    t.tx = s.tx ∧ t.rx = s.rx ∧ t.ftState = s.ftState ∧ t.ftBuf = s.ftBuf ∧ t.ftTLast = s.ftTLast ∧
    t.ftCool = s.ftCool ∧ t.pool = s.pool ∧ t.txCmd = s.txCmd ∧ t.pending = s.pending ∧ t.diagMode = s.diagMode ∧
    (t.activateClimate = true → s.activateClimate = true) ∧
    (t.activateSwingMode = true → s.activateSwingMode = true) ∧
    (t.activateClimate = s.activateClimate ∨ t.activateSwingMode = s.activateSwingMode) ∧
    (s.refreshRequested = true → t.refreshRequested = true) ∧
    (s.supportRH = true → t.supportRH = true) ∧ (s.supportRa = true → t.supportRa = true) ∧
    (s.supportRG = true → t.supportRG = true) ∧
    (s.ready.basic = true → t.ready.basic = true) ∧ (s.ready.swing = true → t.ready.swing = true) ∧
    (s.ready.compressor = true → t.ready.compressor = true) ∧
    (t.cursor = s.cursor ∨ (s.ftBuf ≠ [] ∧ s.cursor < s.pool.length ∧ t.cursor = s.cursor + 1))

/-- For every operation that answers a next state, tx is unchanged, or one ACK byte is appended, or exactly one encoded
frame with a code of 1 or 2 bytes is appended and the operation leaves rx empty and the link in QueryAck or
CommandAck. (10_state.md R26, 40_transport.md R151, 20_memory.md R68) -/
def Obligations.TransmissionsAreFramesOrOneAck : Prop :=
  ∀ (i : Instr) (s t : State), exec i s = .next t →
    t.tx = s.tx ∨ t.tx = s.tx ++ [0x06#8] ∨
    ∃ (code : Code) (p : Option Payload), 1 ≤ code.length ∧ code.length ≤ 2 ∧ t.tx = s.tx ++ encodeFrame code p ∧
      t.rx = [] ∧ (t.ftState = .queryAck ∨ t.ftState = .commandAck)

/-- service always completes with a result r. Idle: the link was Idle, or a Cooldown that has run out, and is Idle.
Timeout: it was receiving and is Idle. Ack, Nak, Error: it was receiving and is in Cooldown, for Ack and Nak with
T_TURNAROUND, for Error with T_ERROR, and Nak only from QueryAck or CommandAck. Busy: it was in Cooldown and still is,
or was receiving and still is. (40_transport.md R153, R152, 60_exceptions.md R252) -/
def Obligations.ServiceResultsByLinkState : Prop :=
  ∀ s : State, ∃ t r, exec (serviceOperation s) s = .next t ∧ t.ret = .result r ∧
    (r = .idle → (s.ftState = .idle ∨ (s.ftState = .cooldown ∧ s.ftCool ≤ (s.now - s.ftTLast).toNat)) ∧
      t.ftState = .idle) ∧
    (r = .timeout → s.ftState.receiving = true ∧ t.ftState = .idle) ∧
    (r = .ack → s.ftState.receiving = true ∧ t.ftState = .cooldown ∧ t.ftCool = s.cfg.tTurnaround) ∧
    (r = .nak → (s.ftState = .queryAck ∨ s.ftState = .commandAck) ∧ t.ftState = .cooldown ∧
      t.ftCool = s.cfg.tTurnaround) ∧
    (r = .error → s.ftState.receiving = true ∧ t.ftState = .cooldown ∧ t.ftCool = s.cfg.tError) ∧
    (r = .busy → (s.ftState = .cooldown ∧ t.ftState = .cooldown) ∨
      (s.ftState.receiving = true ∧ t.ftState.receiving = true))

/-- Where link state, byte and buffer have a cause in the spec's list (NAK_QUERY, NAK_COMMAND, ERR_ACK_BYTE, ERR_STX_BYTE,
ERR_OVERFLOW, ERR_EMPTY_FRAME, ERR_CHECKSUM), handle_rx of the byte returns the cause's result, the link is in
Cooldown for the cause's interval (T_TURNAROUND for the two NAK causes, T_ERROR for the others) and nothing else
changes: nothing is transmitted, the buffer is as it was. Where they have none it continues or returns Ack; in Idle
and Cooldown, where the spec never calls handle_rx, that it continues is the model's reading (log 28).
(60_exceptions.md R251, 40_transport.md R139 to R151) -/
def Obligations.EveryByteFailureHasItsCause : Prop :=
  ∀ (s : State) (b : Byte),
    (∀ c, causeOf s b = some c →
      exec (.rxDispatch b) s = .next { cooling s (causeCooldown s.cfg c) with ret := .result (causeResult c) }) ∧
    (causeOf s b = none → ∃ t, exec (.rxDispatch b) s = .next t ∧ (t.ret = .goOn ∨ t.ret = .result .ack))

/-- A tick in a receiving state whose silence has reached T_RESPONSE leaves the link Idle, reports Timeout, and changes
nothing else but now; a tick in Cooldown at or after the end of the interval does exactly what the same tick does from
Idle; before the end it only reports Busy. A clock that goes back is read modulo 2^32, the model's reading (log 14).
(40_transport.md R154, R134, R136, 60_exceptions.md R256, R262) -/
def Obligations.ExpiredTimersFreeTheLink : Prop :=
  ∀ (s : State) (t : Time),
    (s.ftState.receiving = true → s.cfg.tResponse ≤ (t - s.ftTLast).toNat →
      exec (.tick t) s =
        .next { s with
          now := t, ftState := .idle, report := s.report ++ [.tickResult .timeout], ret := .nothing }) ∧
    (s.ftState = .cooldown → s.ftCool ≤ (t - s.ftTLast).toNat →
      exec (.tick t) s = exec (.tick t) { s with ftState := .idle }) ∧
    (s.ftState = .cooldown → (t - s.ftTLast).toNat < s.ftCool →
      exec (.tick t) s = .next { s with now := t, report := s.report ++ [.tickResult .busy], ret := .nothing })
end

