-- ==== Sys2Proof/Laws/State.lean ====
section
/-! SUPPORT. What each update of Machine/Ops.lean leaves in each field of the state: one lemma per field per update, so that no
proof unfolds a record update. -/

namespace Sys2Proof.Machine

variable (s : State)

/-! ## putRet -/

@[simp] theorem putRet_ftState (v : Ret) : (putRet v s).ftState = s.ftState := rfl
@[simp] theorem putRet_ftBuf (v : Ret) : (putRet v s).ftBuf = s.ftBuf := rfl
@[simp] theorem putRet_ftTLast (v : Ret) : (putRet v s).ftTLast = s.ftTLast := rfl
@[simp] theorem putRet_ftCool (v : Ret) : (putRet v s).ftCool = s.ftCool := rfl
@[simp] theorem putRet_rx (v : Ret) : (putRet v s).rx = s.rx := rfl
@[simp] theorem putRet_tx (v : Ret) : (putRet v s).tx = s.tx := rfl
@[simp] theorem putRet_now (v : Ret) : (putRet v s).now = s.now := rfl
@[simp] theorem putRet_pool (v : Ret) : (putRet v s).pool = s.pool := rfl
@[simp] theorem putRet_cursor (v : Ret) : (putRet v s).cursor = s.cursor := rfl
@[simp] theorem putRet_txCmd (v : Ret) : (putRet v s).txCmd = s.txCmd := rfl
@[simp] theorem putRet_activateClimate (v : Ret) : (putRet v s).activateClimate = s.activateClimate := rfl
@[simp] theorem putRet_activateSwingMode (v : Ret) : (putRet v s).activateSwingMode = s.activateSwingMode := rfl
@[simp] theorem putRet_refreshRequested (v : Ret) : (putRet v s).refreshRequested = s.refreshRequested := rfl
@[simp] theorem putRet_supportRH (v : Ret) : (putRet v s).supportRH = s.supportRH := rfl
@[simp] theorem putRet_supportRa (v : Ret) : (putRet v s).supportRa = s.supportRa := rfl
@[simp] theorem putRet_supportRG (v : Ret) : (putRet v s).supportRG = s.supportRG := rfl
@[simp] theorem putRet_ready (v : Ret) : (putRet v s).ready = s.ready := rfl
@[simp] theorem putRet_diagMode (v : Ret) : (putRet v s).diagMode = s.diagMode := rfl
@[simp] theorem putRet_active (v : Ret) : (putRet v s).active = s.active := rfl
@[simp] theorem putRet_pending (v : Ret) : (putRet v s).pending = s.pending := rfl
@[simp] theorem putRet_tempInside (v : Ret) : (putRet v s).tempInside = s.tempInside := rfl
@[simp] theorem putRet_tempOutside (v : Ret) : (putRet v s).tempOutside = s.tempOutside := rfl
@[simp] theorem putRet_tempCoil (v : Ret) : (putRet v s).tempCoil = s.tempCoil := rfl
@[simp] theorem putRet_fanRpm (v : Ret) : (putRet v s).fanRpm = s.fanRpm := rfl
@[simp] theorem putRet_compressorHz (v : Ret) : (putRet v s).compressorHz = s.compressorHz := rfl
@[simp] theorem putRet_swingVerticalAngle (v : Ret) : (putRet v s).swingVerticalAngle = s.swingVerticalAngle := rfl
@[simp] theorem putRet_diffCache (v : Ret) : (putRet v s).diffCache = s.diffCache := rfl
@[simp] theorem putRet_report (v : Ret) : (putRet v s).report = s.report := rfl
@[simp] theorem putRet_ret (v : Ret) : (putRet v s).ret = v := rfl
@[simp] theorem putRet_inputs (v : Ret) : (putRet v s).inputs = s.inputs := rfl
@[simp] theorem putRet_cfg (v : Ret) : (putRet v s).cfg = s.cfg := rfl
@[simp] theorem putRet_freeCount (v : Ret) : (putRet v s).freeCount = s.freeCount := rfl

/-! ## txPut -/

@[simp] theorem txPut_ftState (bs : List Byte) : (txPut bs s).ftState = s.ftState := rfl
@[simp] theorem txPut_ftBuf (bs : List Byte) : (txPut bs s).ftBuf = s.ftBuf := rfl
@[simp] theorem txPut_ftTLast (bs : List Byte) : (txPut bs s).ftTLast = s.ftTLast := rfl
@[simp] theorem txPut_ftCool (bs : List Byte) : (txPut bs s).ftCool = s.ftCool := rfl
@[simp] theorem txPut_rx (bs : List Byte) : (txPut bs s).rx = s.rx := rfl
@[simp] theorem txPut_tx (bs : List Byte) : (txPut bs s).tx = s.tx ++ bs := rfl
@[simp] theorem txPut_now (bs : List Byte) : (txPut bs s).now = s.now := rfl
@[simp] theorem txPut_pool (bs : List Byte) : (txPut bs s).pool = s.pool := rfl
@[simp] theorem txPut_cursor (bs : List Byte) : (txPut bs s).cursor = s.cursor := rfl
@[simp] theorem txPut_txCmd (bs : List Byte) : (txPut bs s).txCmd = s.txCmd := rfl
@[simp] theorem txPut_activateClimate (bs : List Byte) : (txPut bs s).activateClimate = s.activateClimate := rfl
@[simp] theorem txPut_activateSwingMode (bs : List Byte) : (txPut bs s).activateSwingMode = s.activateSwingMode := rfl
@[simp] theorem txPut_refreshRequested (bs : List Byte) : (txPut bs s).refreshRequested = s.refreshRequested := rfl
@[simp] theorem txPut_supportRH (bs : List Byte) : (txPut bs s).supportRH = s.supportRH := rfl
@[simp] theorem txPut_supportRa (bs : List Byte) : (txPut bs s).supportRa = s.supportRa := rfl
@[simp] theorem txPut_supportRG (bs : List Byte) : (txPut bs s).supportRG = s.supportRG := rfl
@[simp] theorem txPut_ready (bs : List Byte) : (txPut bs s).ready = s.ready := rfl
@[simp] theorem txPut_diagMode (bs : List Byte) : (txPut bs s).diagMode = s.diagMode := rfl
@[simp] theorem txPut_active (bs : List Byte) : (txPut bs s).active = s.active := rfl
@[simp] theorem txPut_pending (bs : List Byte) : (txPut bs s).pending = s.pending := rfl
@[simp] theorem txPut_tempInside (bs : List Byte) : (txPut bs s).tempInside = s.tempInside := rfl
@[simp] theorem txPut_tempOutside (bs : List Byte) : (txPut bs s).tempOutside = s.tempOutside := rfl
@[simp] theorem txPut_tempCoil (bs : List Byte) : (txPut bs s).tempCoil = s.tempCoil := rfl
@[simp] theorem txPut_fanRpm (bs : List Byte) : (txPut bs s).fanRpm = s.fanRpm := rfl
@[simp] theorem txPut_compressorHz (bs : List Byte) : (txPut bs s).compressorHz = s.compressorHz := rfl
@[simp] theorem txPut_swingVerticalAngle (bs : List Byte) : (txPut bs s).swingVerticalAngle = s.swingVerticalAngle := rfl
@[simp] theorem txPut_diffCache (bs : List Byte) : (txPut bs s).diffCache = s.diffCache := rfl
@[simp] theorem txPut_report (bs : List Byte) : (txPut bs s).report = s.report := rfl
@[simp] theorem txPut_ret (bs : List Byte) : (txPut bs s).ret = s.ret := rfl
@[simp] theorem txPut_inputs (bs : List Byte) : (txPut bs s).inputs = s.inputs := rfl
@[simp] theorem txPut_cfg (bs : List Byte) : (txPut bs s).cfg = s.cfg := rfl
@[simp] theorem txPut_freeCount (bs : List Byte) : (txPut bs s).freeCount = s.freeCount := rfl

/-! ## rxArrive -/

@[simp] theorem rxArrive_ftState (bs : List Byte) : (rxArrive bs s).ftState = s.ftState := rfl
@[simp] theorem rxArrive_ftBuf (bs : List Byte) : (rxArrive bs s).ftBuf = s.ftBuf := rfl
@[simp] theorem rxArrive_ftTLast (bs : List Byte) : (rxArrive bs s).ftTLast = s.ftTLast := rfl
@[simp] theorem rxArrive_ftCool (bs : List Byte) : (rxArrive bs s).ftCool = s.ftCool := rfl
@[simp] theorem rxArrive_rx (bs : List Byte) : (rxArrive bs s).rx = s.rx ++ bs := rfl
@[simp] theorem rxArrive_tx (bs : List Byte) : (rxArrive bs s).tx = s.tx := rfl
@[simp] theorem rxArrive_now (bs : List Byte) : (rxArrive bs s).now = s.now := rfl
@[simp] theorem rxArrive_pool (bs : List Byte) : (rxArrive bs s).pool = s.pool := rfl
@[simp] theorem rxArrive_cursor (bs : List Byte) : (rxArrive bs s).cursor = s.cursor := rfl
@[simp] theorem rxArrive_txCmd (bs : List Byte) : (rxArrive bs s).txCmd = s.txCmd := rfl
@[simp] theorem rxArrive_activateClimate (bs : List Byte) : (rxArrive bs s).activateClimate = s.activateClimate := rfl
@[simp] theorem rxArrive_activateSwingMode (bs : List Byte) : (rxArrive bs s).activateSwingMode = s.activateSwingMode := rfl
@[simp] theorem rxArrive_refreshRequested (bs : List Byte) : (rxArrive bs s).refreshRequested = s.refreshRequested := rfl
@[simp] theorem rxArrive_supportRH (bs : List Byte) : (rxArrive bs s).supportRH = s.supportRH := rfl
@[simp] theorem rxArrive_supportRa (bs : List Byte) : (rxArrive bs s).supportRa = s.supportRa := rfl
@[simp] theorem rxArrive_supportRG (bs : List Byte) : (rxArrive bs s).supportRG = s.supportRG := rfl
@[simp] theorem rxArrive_ready (bs : List Byte) : (rxArrive bs s).ready = s.ready := rfl
@[simp] theorem rxArrive_diagMode (bs : List Byte) : (rxArrive bs s).diagMode = s.diagMode := rfl
@[simp] theorem rxArrive_active (bs : List Byte) : (rxArrive bs s).active = s.active := rfl
@[simp] theorem rxArrive_pending (bs : List Byte) : (rxArrive bs s).pending = s.pending := rfl
@[simp] theorem rxArrive_tempInside (bs : List Byte) : (rxArrive bs s).tempInside = s.tempInside := rfl
@[simp] theorem rxArrive_tempOutside (bs : List Byte) : (rxArrive bs s).tempOutside = s.tempOutside := rfl
@[simp] theorem rxArrive_tempCoil (bs : List Byte) : (rxArrive bs s).tempCoil = s.tempCoil := rfl
@[simp] theorem rxArrive_fanRpm (bs : List Byte) : (rxArrive bs s).fanRpm = s.fanRpm := rfl
@[simp] theorem rxArrive_compressorHz (bs : List Byte) : (rxArrive bs s).compressorHz = s.compressorHz := rfl
@[simp] theorem rxArrive_swingVerticalAngle (bs : List Byte) : (rxArrive bs s).swingVerticalAngle = s.swingVerticalAngle := rfl
@[simp] theorem rxArrive_diffCache (bs : List Byte) : (rxArrive bs s).diffCache = s.diffCache := rfl
@[simp] theorem rxArrive_report (bs : List Byte) : (rxArrive bs s).report = s.report := rfl
@[simp] theorem rxArrive_ret (bs : List Byte) : (rxArrive bs s).ret = s.ret := rfl
@[simp] theorem rxArrive_inputs (bs : List Byte) : (rxArrive bs s).inputs = s.inputs := rfl
@[simp] theorem rxArrive_cfg (bs : List Byte) : (rxArrive bs s).cfg = s.cfg := rfl
@[simp] theorem rxArrive_freeCount (bs : List Byte) : (rxArrive bs s).freeCount = s.freeCount := rfl

/-! ## rxFlush -/

@[simp] theorem rxFlush_ftState : (rxFlush s).ftState = s.ftState := rfl
@[simp] theorem rxFlush_ftBuf : (rxFlush s).ftBuf = s.ftBuf := rfl
@[simp] theorem rxFlush_ftTLast : (rxFlush s).ftTLast = s.ftTLast := rfl
@[simp] theorem rxFlush_ftCool : (rxFlush s).ftCool = s.ftCool := rfl
@[simp] theorem rxFlush_rx : (rxFlush s).rx = [] := rfl
@[simp] theorem rxFlush_tx : (rxFlush s).tx = s.tx := rfl
@[simp] theorem rxFlush_now : (rxFlush s).now = s.now := rfl
@[simp] theorem rxFlush_pool : (rxFlush s).pool = s.pool := rfl
@[simp] theorem rxFlush_cursor : (rxFlush s).cursor = s.cursor := rfl
@[simp] theorem rxFlush_txCmd : (rxFlush s).txCmd = s.txCmd := rfl
@[simp] theorem rxFlush_activateClimate : (rxFlush s).activateClimate = s.activateClimate := rfl
@[simp] theorem rxFlush_activateSwingMode : (rxFlush s).activateSwingMode = s.activateSwingMode := rfl
@[simp] theorem rxFlush_refreshRequested : (rxFlush s).refreshRequested = s.refreshRequested := rfl
@[simp] theorem rxFlush_supportRH : (rxFlush s).supportRH = s.supportRH := rfl
@[simp] theorem rxFlush_supportRa : (rxFlush s).supportRa = s.supportRa := rfl
@[simp] theorem rxFlush_supportRG : (rxFlush s).supportRG = s.supportRG := rfl
@[simp] theorem rxFlush_ready : (rxFlush s).ready = s.ready := rfl
@[simp] theorem rxFlush_diagMode : (rxFlush s).diagMode = s.diagMode := rfl
@[simp] theorem rxFlush_active : (rxFlush s).active = s.active := rfl
@[simp] theorem rxFlush_pending : (rxFlush s).pending = s.pending := rfl
@[simp] theorem rxFlush_tempInside : (rxFlush s).tempInside = s.tempInside := rfl
@[simp] theorem rxFlush_tempOutside : (rxFlush s).tempOutside = s.tempOutside := rfl
@[simp] theorem rxFlush_tempCoil : (rxFlush s).tempCoil = s.tempCoil := rfl
@[simp] theorem rxFlush_fanRpm : (rxFlush s).fanRpm = s.fanRpm := rfl
@[simp] theorem rxFlush_compressorHz : (rxFlush s).compressorHz = s.compressorHz := rfl
@[simp] theorem rxFlush_swingVerticalAngle : (rxFlush s).swingVerticalAngle = s.swingVerticalAngle := rfl
@[simp] theorem rxFlush_diffCache : (rxFlush s).diffCache = s.diffCache := rfl
@[simp] theorem rxFlush_report : (rxFlush s).report = s.report := rfl
@[simp] theorem rxFlush_ret : (rxFlush s).ret = s.ret := rfl
@[simp] theorem rxFlush_inputs : (rxFlush s).inputs = s.inputs := rfl
@[simp] theorem rxFlush_cfg : (rxFlush s).cfg = s.cfg := rfl
@[simp] theorem rxFlush_freeCount : (rxFlush s).freeCount = s.freeCount := rfl

/-! ## rxConsume -/

@[simp] theorem rxConsume_ftState (rest : List Byte) : (rxConsume rest s).ftState = s.ftState := rfl
@[simp] theorem rxConsume_ftBuf (rest : List Byte) : (rxConsume rest s).ftBuf = s.ftBuf := rfl
@[simp] theorem rxConsume_ftTLast (rest : List Byte) : (rxConsume rest s).ftTLast = s.now := rfl
@[simp] theorem rxConsume_ftCool (rest : List Byte) : (rxConsume rest s).ftCool = s.ftCool := rfl
@[simp] theorem rxConsume_rx (rest : List Byte) : (rxConsume rest s).rx = rest := rfl
@[simp] theorem rxConsume_tx (rest : List Byte) : (rxConsume rest s).tx = s.tx := rfl
@[simp] theorem rxConsume_now (rest : List Byte) : (rxConsume rest s).now = s.now := rfl
@[simp] theorem rxConsume_pool (rest : List Byte) : (rxConsume rest s).pool = s.pool := rfl
@[simp] theorem rxConsume_cursor (rest : List Byte) : (rxConsume rest s).cursor = s.cursor := rfl
@[simp] theorem rxConsume_txCmd (rest : List Byte) : (rxConsume rest s).txCmd = s.txCmd := rfl
@[simp] theorem rxConsume_activateClimate (rest : List Byte) : (rxConsume rest s).activateClimate = s.activateClimate := rfl
@[simp] theorem rxConsume_activateSwingMode (rest : List Byte) : (rxConsume rest s).activateSwingMode = s.activateSwingMode := rfl
@[simp] theorem rxConsume_refreshRequested (rest : List Byte) : (rxConsume rest s).refreshRequested = s.refreshRequested := rfl
@[simp] theorem rxConsume_supportRH (rest : List Byte) : (rxConsume rest s).supportRH = s.supportRH := rfl
@[simp] theorem rxConsume_supportRa (rest : List Byte) : (rxConsume rest s).supportRa = s.supportRa := rfl
@[simp] theorem rxConsume_supportRG (rest : List Byte) : (rxConsume rest s).supportRG = s.supportRG := rfl
@[simp] theorem rxConsume_ready (rest : List Byte) : (rxConsume rest s).ready = s.ready := rfl
@[simp] theorem rxConsume_diagMode (rest : List Byte) : (rxConsume rest s).diagMode = s.diagMode := rfl
@[simp] theorem rxConsume_active (rest : List Byte) : (rxConsume rest s).active = s.active := rfl
@[simp] theorem rxConsume_pending (rest : List Byte) : (rxConsume rest s).pending = s.pending := rfl
@[simp] theorem rxConsume_tempInside (rest : List Byte) : (rxConsume rest s).tempInside = s.tempInside := rfl
@[simp] theorem rxConsume_tempOutside (rest : List Byte) : (rxConsume rest s).tempOutside = s.tempOutside := rfl
@[simp] theorem rxConsume_tempCoil (rest : List Byte) : (rxConsume rest s).tempCoil = s.tempCoil := rfl
@[simp] theorem rxConsume_fanRpm (rest : List Byte) : (rxConsume rest s).fanRpm = s.fanRpm := rfl
@[simp] theorem rxConsume_compressorHz (rest : List Byte) : (rxConsume rest s).compressorHz = s.compressorHz := rfl
@[simp] theorem rxConsume_swingVerticalAngle (rest : List Byte) : (rxConsume rest s).swingVerticalAngle = s.swingVerticalAngle := rfl
@[simp] theorem rxConsume_diffCache (rest : List Byte) : (rxConsume rest s).diffCache = s.diffCache := rfl
@[simp] theorem rxConsume_report (rest : List Byte) : (rxConsume rest s).report = s.report := rfl
@[simp] theorem rxConsume_ret (rest : List Byte) : (rxConsume rest s).ret = s.ret := rfl
@[simp] theorem rxConsume_inputs (rest : List Byte) : (rxConsume rest s).inputs = s.inputs := rfl
@[simp] theorem rxConsume_cfg (rest : List Byte) : (rxConsume rest s).cfg = s.cfg := rfl
@[simp] theorem rxConsume_freeCount (rest : List Byte) : (rxConsume rest s).freeCount = s.freeCount := rfl

/-! ## emitEvent -/

@[simp] theorem emitEvent_ftState (e : Event) : (emitEvent e s).ftState = s.ftState := rfl
@[simp] theorem emitEvent_ftBuf (e : Event) : (emitEvent e s).ftBuf = s.ftBuf := rfl
@[simp] theorem emitEvent_ftTLast (e : Event) : (emitEvent e s).ftTLast = s.ftTLast := rfl
@[simp] theorem emitEvent_ftCool (e : Event) : (emitEvent e s).ftCool = s.ftCool := rfl
@[simp] theorem emitEvent_rx (e : Event) : (emitEvent e s).rx = s.rx := rfl
@[simp] theorem emitEvent_tx (e : Event) : (emitEvent e s).tx = s.tx := rfl
@[simp] theorem emitEvent_now (e : Event) : (emitEvent e s).now = s.now := rfl
@[simp] theorem emitEvent_pool (e : Event) : (emitEvent e s).pool = s.pool := rfl
@[simp] theorem emitEvent_cursor (e : Event) : (emitEvent e s).cursor = s.cursor := rfl
@[simp] theorem emitEvent_txCmd (e : Event) : (emitEvent e s).txCmd = s.txCmd := rfl
@[simp] theorem emitEvent_activateClimate (e : Event) : (emitEvent e s).activateClimate = s.activateClimate := rfl
@[simp] theorem emitEvent_activateSwingMode (e : Event) : (emitEvent e s).activateSwingMode = s.activateSwingMode := rfl
@[simp] theorem emitEvent_refreshRequested (e : Event) : (emitEvent e s).refreshRequested = s.refreshRequested := rfl
@[simp] theorem emitEvent_supportRH (e : Event) : (emitEvent e s).supportRH = s.supportRH := rfl
@[simp] theorem emitEvent_supportRa (e : Event) : (emitEvent e s).supportRa = s.supportRa := rfl
@[simp] theorem emitEvent_supportRG (e : Event) : (emitEvent e s).supportRG = s.supportRG := rfl
@[simp] theorem emitEvent_ready (e : Event) : (emitEvent e s).ready = s.ready := rfl
@[simp] theorem emitEvent_diagMode (e : Event) : (emitEvent e s).diagMode = s.diagMode := rfl
@[simp] theorem emitEvent_active (e : Event) : (emitEvent e s).active = s.active := rfl
@[simp] theorem emitEvent_pending (e : Event) : (emitEvent e s).pending = s.pending := rfl
@[simp] theorem emitEvent_tempInside (e : Event) : (emitEvent e s).tempInside = s.tempInside := rfl
@[simp] theorem emitEvent_tempOutside (e : Event) : (emitEvent e s).tempOutside = s.tempOutside := rfl
@[simp] theorem emitEvent_tempCoil (e : Event) : (emitEvent e s).tempCoil = s.tempCoil := rfl
@[simp] theorem emitEvent_fanRpm (e : Event) : (emitEvent e s).fanRpm = s.fanRpm := rfl
@[simp] theorem emitEvent_compressorHz (e : Event) : (emitEvent e s).compressorHz = s.compressorHz := rfl
@[simp] theorem emitEvent_swingVerticalAngle (e : Event) : (emitEvent e s).swingVerticalAngle = s.swingVerticalAngle := rfl
@[simp] theorem emitEvent_diffCache (e : Event) : (emitEvent e s).diffCache = s.diffCache := rfl
@[simp] theorem emitEvent_report (e : Event) : (emitEvent e s).report = s.report ++ [e] := rfl
@[simp] theorem emitEvent_ret (e : Event) : (emitEvent e s).ret = s.ret := rfl
@[simp] theorem emitEvent_inputs (e : Event) : (emitEvent e s).inputs = s.inputs := rfl
@[simp] theorem emitEvent_cfg (e : Event) : (emitEvent e s).cfg = s.cfg := rfl
@[simp] theorem emitEvent_freeCount (e : Event) : (emitEvent e s).freeCount = s.freeCount := rfl

/-! ## setLink -/

@[simp] theorem setLink_ftState (st : CommState) : (setLink st s).ftState = st := rfl
@[simp] theorem setLink_ftBuf (st : CommState) : (setLink st s).ftBuf = s.ftBuf := rfl
@[simp] theorem setLink_ftTLast (st : CommState) : (setLink st s).ftTLast = s.ftTLast := rfl
@[simp] theorem setLink_ftCool (st : CommState) : (setLink st s).ftCool = s.ftCool := rfl
@[simp] theorem setLink_rx (st : CommState) : (setLink st s).rx = s.rx := rfl
@[simp] theorem setLink_tx (st : CommState) : (setLink st s).tx = s.tx := rfl
@[simp] theorem setLink_now (st : CommState) : (setLink st s).now = s.now := rfl
@[simp] theorem setLink_pool (st : CommState) : (setLink st s).pool = s.pool := rfl
@[simp] theorem setLink_cursor (st : CommState) : (setLink st s).cursor = s.cursor := rfl
@[simp] theorem setLink_txCmd (st : CommState) : (setLink st s).txCmd = s.txCmd := rfl
@[simp] theorem setLink_activateClimate (st : CommState) : (setLink st s).activateClimate = s.activateClimate := rfl
@[simp] theorem setLink_activateSwingMode (st : CommState) : (setLink st s).activateSwingMode = s.activateSwingMode := rfl
@[simp] theorem setLink_refreshRequested (st : CommState) : (setLink st s).refreshRequested = s.refreshRequested := rfl
@[simp] theorem setLink_supportRH (st : CommState) : (setLink st s).supportRH = s.supportRH := rfl
@[simp] theorem setLink_supportRa (st : CommState) : (setLink st s).supportRa = s.supportRa := rfl
@[simp] theorem setLink_supportRG (st : CommState) : (setLink st s).supportRG = s.supportRG := rfl
@[simp] theorem setLink_ready (st : CommState) : (setLink st s).ready = s.ready := rfl
@[simp] theorem setLink_diagMode (st : CommState) : (setLink st s).diagMode = s.diagMode := rfl
@[simp] theorem setLink_active (st : CommState) : (setLink st s).active = s.active := rfl
@[simp] theorem setLink_pending (st : CommState) : (setLink st s).pending = s.pending := rfl
@[simp] theorem setLink_tempInside (st : CommState) : (setLink st s).tempInside = s.tempInside := rfl
@[simp] theorem setLink_tempOutside (st : CommState) : (setLink st s).tempOutside = s.tempOutside := rfl
@[simp] theorem setLink_tempCoil (st : CommState) : (setLink st s).tempCoil = s.tempCoil := rfl
@[simp] theorem setLink_fanRpm (st : CommState) : (setLink st s).fanRpm = s.fanRpm := rfl
@[simp] theorem setLink_compressorHz (st : CommState) : (setLink st s).compressorHz = s.compressorHz := rfl
@[simp] theorem setLink_swingVerticalAngle (st : CommState) : (setLink st s).swingVerticalAngle = s.swingVerticalAngle := rfl
@[simp] theorem setLink_diffCache (st : CommState) : (setLink st s).diffCache = s.diffCache := rfl
@[simp] theorem setLink_report (st : CommState) : (setLink st s).report = s.report := rfl
@[simp] theorem setLink_ret (st : CommState) : (setLink st s).ret = s.ret := rfl
@[simp] theorem setLink_inputs (st : CommState) : (setLink st s).inputs = s.inputs := rfl
@[simp] theorem setLink_cfg (st : CommState) : (setLink st s).cfg = s.cfg := rfl
@[simp] theorem setLink_freeCount (st : CommState) : (setLink st s).freeCount = s.freeCount := rfl

/-! ## setBuf -/

@[simp] theorem setBuf_ftState (b : List Byte) : (setBuf b s).ftState = s.ftState := rfl
@[simp] theorem setBuf_ftBuf (b : List Byte) : (setBuf b s).ftBuf = b := rfl
@[simp] theorem setBuf_ftTLast (b : List Byte) : (setBuf b s).ftTLast = s.ftTLast := rfl
@[simp] theorem setBuf_ftCool (b : List Byte) : (setBuf b s).ftCool = s.ftCool := rfl
@[simp] theorem setBuf_rx (b : List Byte) : (setBuf b s).rx = s.rx := rfl
@[simp] theorem setBuf_tx (b : List Byte) : (setBuf b s).tx = s.tx := rfl
@[simp] theorem setBuf_now (b : List Byte) : (setBuf b s).now = s.now := rfl
@[simp] theorem setBuf_pool (b : List Byte) : (setBuf b s).pool = s.pool := rfl
@[simp] theorem setBuf_cursor (b : List Byte) : (setBuf b s).cursor = s.cursor := rfl
@[simp] theorem setBuf_txCmd (b : List Byte) : (setBuf b s).txCmd = s.txCmd := rfl
@[simp] theorem setBuf_activateClimate (b : List Byte) : (setBuf b s).activateClimate = s.activateClimate := rfl
@[simp] theorem setBuf_activateSwingMode (b : List Byte) : (setBuf b s).activateSwingMode = s.activateSwingMode := rfl
@[simp] theorem setBuf_refreshRequested (b : List Byte) : (setBuf b s).refreshRequested = s.refreshRequested := rfl
@[simp] theorem setBuf_supportRH (b : List Byte) : (setBuf b s).supportRH = s.supportRH := rfl
@[simp] theorem setBuf_supportRa (b : List Byte) : (setBuf b s).supportRa = s.supportRa := rfl
@[simp] theorem setBuf_supportRG (b : List Byte) : (setBuf b s).supportRG = s.supportRG := rfl
@[simp] theorem setBuf_ready (b : List Byte) : (setBuf b s).ready = s.ready := rfl
@[simp] theorem setBuf_diagMode (b : List Byte) : (setBuf b s).diagMode = s.diagMode := rfl
@[simp] theorem setBuf_active (b : List Byte) : (setBuf b s).active = s.active := rfl
@[simp] theorem setBuf_pending (b : List Byte) : (setBuf b s).pending = s.pending := rfl
@[simp] theorem setBuf_tempInside (b : List Byte) : (setBuf b s).tempInside = s.tempInside := rfl
@[simp] theorem setBuf_tempOutside (b : List Byte) : (setBuf b s).tempOutside = s.tempOutside := rfl
@[simp] theorem setBuf_tempCoil (b : List Byte) : (setBuf b s).tempCoil = s.tempCoil := rfl
@[simp] theorem setBuf_fanRpm (b : List Byte) : (setBuf b s).fanRpm = s.fanRpm := rfl
@[simp] theorem setBuf_compressorHz (b : List Byte) : (setBuf b s).compressorHz = s.compressorHz := rfl
@[simp] theorem setBuf_swingVerticalAngle (b : List Byte) : (setBuf b s).swingVerticalAngle = s.swingVerticalAngle := rfl
@[simp] theorem setBuf_diffCache (b : List Byte) : (setBuf b s).diffCache = s.diffCache := rfl
@[simp] theorem setBuf_report (b : List Byte) : (setBuf b s).report = s.report := rfl
@[simp] theorem setBuf_ret (b : List Byte) : (setBuf b s).ret = s.ret := rfl
@[simp] theorem setBuf_inputs (b : List Byte) : (setBuf b s).inputs = s.inputs := rfl
@[simp] theorem setBuf_cfg (b : List Byte) : (setBuf b s).cfg = s.cfg := rfl
@[simp] theorem setBuf_freeCount (b : List Byte) : (setBuf b s).freeCount = s.freeCount := rfl

/-! ## stampTime -/

@[simp] theorem stampTime_ftState : (stampTime s).ftState = s.ftState := rfl
@[simp] theorem stampTime_ftBuf : (stampTime s).ftBuf = s.ftBuf := rfl
@[simp] theorem stampTime_ftTLast : (stampTime s).ftTLast = s.now := rfl
@[simp] theorem stampTime_ftCool : (stampTime s).ftCool = s.ftCool := rfl
@[simp] theorem stampTime_rx : (stampTime s).rx = s.rx := rfl
@[simp] theorem stampTime_tx : (stampTime s).tx = s.tx := rfl
@[simp] theorem stampTime_now : (stampTime s).now = s.now := rfl
@[simp] theorem stampTime_pool : (stampTime s).pool = s.pool := rfl
@[simp] theorem stampTime_cursor : (stampTime s).cursor = s.cursor := rfl
@[simp] theorem stampTime_txCmd : (stampTime s).txCmd = s.txCmd := rfl
@[simp] theorem stampTime_activateClimate : (stampTime s).activateClimate = s.activateClimate := rfl
@[simp] theorem stampTime_activateSwingMode : (stampTime s).activateSwingMode = s.activateSwingMode := rfl
@[simp] theorem stampTime_refreshRequested : (stampTime s).refreshRequested = s.refreshRequested := rfl
@[simp] theorem stampTime_supportRH : (stampTime s).supportRH = s.supportRH := rfl
@[simp] theorem stampTime_supportRa : (stampTime s).supportRa = s.supportRa := rfl
@[simp] theorem stampTime_supportRG : (stampTime s).supportRG = s.supportRG := rfl
@[simp] theorem stampTime_ready : (stampTime s).ready = s.ready := rfl
@[simp] theorem stampTime_diagMode : (stampTime s).diagMode = s.diagMode := rfl
@[simp] theorem stampTime_active : (stampTime s).active = s.active := rfl
@[simp] theorem stampTime_pending : (stampTime s).pending = s.pending := rfl
@[simp] theorem stampTime_tempInside : (stampTime s).tempInside = s.tempInside := rfl
@[simp] theorem stampTime_tempOutside : (stampTime s).tempOutside = s.tempOutside := rfl
@[simp] theorem stampTime_tempCoil : (stampTime s).tempCoil = s.tempCoil := rfl
@[simp] theorem stampTime_fanRpm : (stampTime s).fanRpm = s.fanRpm := rfl
@[simp] theorem stampTime_compressorHz : (stampTime s).compressorHz = s.compressorHz := rfl
@[simp] theorem stampTime_swingVerticalAngle : (stampTime s).swingVerticalAngle = s.swingVerticalAngle := rfl
@[simp] theorem stampTime_diffCache : (stampTime s).diffCache = s.diffCache := rfl
@[simp] theorem stampTime_report : (stampTime s).report = s.report := rfl
@[simp] theorem stampTime_ret : (stampTime s).ret = s.ret := rfl
@[simp] theorem stampTime_inputs : (stampTime s).inputs = s.inputs := rfl
@[simp] theorem stampTime_cfg : (stampTime s).cfg = s.cfg := rfl
@[simp] theorem stampTime_freeCount : (stampTime s).freeCount = s.freeCount := rfl

/-! ## setTxCmd -/

@[simp] theorem setTxCmd_ftState (c : Code) : (setTxCmd c s).ftState = s.ftState := rfl
@[simp] theorem setTxCmd_ftBuf (c : Code) : (setTxCmd c s).ftBuf = s.ftBuf := rfl
@[simp] theorem setTxCmd_ftTLast (c : Code) : (setTxCmd c s).ftTLast = s.ftTLast := rfl
@[simp] theorem setTxCmd_ftCool (c : Code) : (setTxCmd c s).ftCool = s.ftCool := rfl
@[simp] theorem setTxCmd_rx (c : Code) : (setTxCmd c s).rx = s.rx := rfl
@[simp] theorem setTxCmd_tx (c : Code) : (setTxCmd c s).tx = s.tx := rfl
@[simp] theorem setTxCmd_now (c : Code) : (setTxCmd c s).now = s.now := rfl
@[simp] theorem setTxCmd_pool (c : Code) : (setTxCmd c s).pool = s.pool := rfl
@[simp] theorem setTxCmd_cursor (c : Code) : (setTxCmd c s).cursor = s.cursor := rfl
@[simp] theorem setTxCmd_txCmd (c : Code) : (setTxCmd c s).txCmd = c := rfl
@[simp] theorem setTxCmd_activateClimate (c : Code) : (setTxCmd c s).activateClimate = s.activateClimate := rfl
@[simp] theorem setTxCmd_activateSwingMode (c : Code) : (setTxCmd c s).activateSwingMode = s.activateSwingMode := rfl
@[simp] theorem setTxCmd_refreshRequested (c : Code) : (setTxCmd c s).refreshRequested = s.refreshRequested := rfl
@[simp] theorem setTxCmd_supportRH (c : Code) : (setTxCmd c s).supportRH = s.supportRH := rfl
@[simp] theorem setTxCmd_supportRa (c : Code) : (setTxCmd c s).supportRa = s.supportRa := rfl
@[simp] theorem setTxCmd_supportRG (c : Code) : (setTxCmd c s).supportRG = s.supportRG := rfl
@[simp] theorem setTxCmd_ready (c : Code) : (setTxCmd c s).ready = s.ready := rfl
@[simp] theorem setTxCmd_diagMode (c : Code) : (setTxCmd c s).diagMode = s.diagMode := rfl
@[simp] theorem setTxCmd_active (c : Code) : (setTxCmd c s).active = s.active := rfl
@[simp] theorem setTxCmd_pending (c : Code) : (setTxCmd c s).pending = s.pending := rfl
@[simp] theorem setTxCmd_tempInside (c : Code) : (setTxCmd c s).tempInside = s.tempInside := rfl
@[simp] theorem setTxCmd_tempOutside (c : Code) : (setTxCmd c s).tempOutside = s.tempOutside := rfl
@[simp] theorem setTxCmd_tempCoil (c : Code) : (setTxCmd c s).tempCoil = s.tempCoil := rfl
@[simp] theorem setTxCmd_fanRpm (c : Code) : (setTxCmd c s).fanRpm = s.fanRpm := rfl
@[simp] theorem setTxCmd_compressorHz (c : Code) : (setTxCmd c s).compressorHz = s.compressorHz := rfl
@[simp] theorem setTxCmd_swingVerticalAngle (c : Code) : (setTxCmd c s).swingVerticalAngle = s.swingVerticalAngle := rfl
@[simp] theorem setTxCmd_diffCache (c : Code) : (setTxCmd c s).diffCache = s.diffCache := rfl
@[simp] theorem setTxCmd_report (c : Code) : (setTxCmd c s).report = s.report := rfl
@[simp] theorem setTxCmd_ret (c : Code) : (setTxCmd c s).ret = s.ret := rfl
@[simp] theorem setTxCmd_inputs (c : Code) : (setTxCmd c s).inputs = s.inputs := rfl
@[simp] theorem setTxCmd_cfg (c : Code) : (setTxCmd c s).cfg = s.cfg := rfl
@[simp] theorem setTxCmd_freeCount (c : Code) : (setTxCmd c s).freeCount = s.freeCount := rfl

/-! ## setCache -/

@[simp] theorem setCache_ftState (m : List (Code × List Byte)) : (setCache m s).ftState = s.ftState := rfl
@[simp] theorem setCache_ftBuf (m : List (Code × List Byte)) : (setCache m s).ftBuf = s.ftBuf := rfl
@[simp] theorem setCache_ftTLast (m : List (Code × List Byte)) : (setCache m s).ftTLast = s.ftTLast := rfl
@[simp] theorem setCache_ftCool (m : List (Code × List Byte)) : (setCache m s).ftCool = s.ftCool := rfl
@[simp] theorem setCache_rx (m : List (Code × List Byte)) : (setCache m s).rx = s.rx := rfl
@[simp] theorem setCache_tx (m : List (Code × List Byte)) : (setCache m s).tx = s.tx := rfl
@[simp] theorem setCache_now (m : List (Code × List Byte)) : (setCache m s).now = s.now := rfl
@[simp] theorem setCache_pool (m : List (Code × List Byte)) : (setCache m s).pool = s.pool := rfl
@[simp] theorem setCache_cursor (m : List (Code × List Byte)) : (setCache m s).cursor = s.cursor := rfl
@[simp] theorem setCache_txCmd (m : List (Code × List Byte)) : (setCache m s).txCmd = s.txCmd := rfl
@[simp] theorem setCache_activateClimate (m : List (Code × List Byte)) : (setCache m s).activateClimate = s.activateClimate := rfl
@[simp] theorem setCache_activateSwingMode (m : List (Code × List Byte)) : (setCache m s).activateSwingMode = s.activateSwingMode := rfl
@[simp] theorem setCache_refreshRequested (m : List (Code × List Byte)) : (setCache m s).refreshRequested = s.refreshRequested := rfl
@[simp] theorem setCache_supportRH (m : List (Code × List Byte)) : (setCache m s).supportRH = s.supportRH := rfl
@[simp] theorem setCache_supportRa (m : List (Code × List Byte)) : (setCache m s).supportRa = s.supportRa := rfl
@[simp] theorem setCache_supportRG (m : List (Code × List Byte)) : (setCache m s).supportRG = s.supportRG := rfl
@[simp] theorem setCache_ready (m : List (Code × List Byte)) : (setCache m s).ready = s.ready := rfl
@[simp] theorem setCache_diagMode (m : List (Code × List Byte)) : (setCache m s).diagMode = s.diagMode := rfl
@[simp] theorem setCache_active (m : List (Code × List Byte)) : (setCache m s).active = s.active := rfl
@[simp] theorem setCache_pending (m : List (Code × List Byte)) : (setCache m s).pending = s.pending := rfl
@[simp] theorem setCache_tempInside (m : List (Code × List Byte)) : (setCache m s).tempInside = s.tempInside := rfl
@[simp] theorem setCache_tempOutside (m : List (Code × List Byte)) : (setCache m s).tempOutside = s.tempOutside := rfl
@[simp] theorem setCache_tempCoil (m : List (Code × List Byte)) : (setCache m s).tempCoil = s.tempCoil := rfl
@[simp] theorem setCache_fanRpm (m : List (Code × List Byte)) : (setCache m s).fanRpm = s.fanRpm := rfl
@[simp] theorem setCache_compressorHz (m : List (Code × List Byte)) : (setCache m s).compressorHz = s.compressorHz := rfl
@[simp] theorem setCache_swingVerticalAngle (m : List (Code × List Byte)) : (setCache m s).swingVerticalAngle = s.swingVerticalAngle := rfl
@[simp] theorem setCache_diffCache (m : List (Code × List Byte)) : (setCache m s).diffCache = m := rfl
@[simp] theorem setCache_report (m : List (Code × List Byte)) : (setCache m s).report = s.report := rfl
@[simp] theorem setCache_ret (m : List (Code × List Byte)) : (setCache m s).ret = s.ret := rfl
@[simp] theorem setCache_inputs (m : List (Code × List Byte)) : (setCache m s).inputs = s.inputs := rfl
@[simp] theorem setCache_cfg (m : List (Code × List Byte)) : (setCache m s).cfg = s.cfg := rfl
@[simp] theorem setCache_freeCount (m : List (Code × List Byte)) : (setCache m s).freeCount = s.freeCount := rfl

/-! ## setNow -/

@[simp] theorem setNow_ftState (t : Time) : (setNow t s).ftState = s.ftState := rfl
@[simp] theorem setNow_ftBuf (t : Time) : (setNow t s).ftBuf = s.ftBuf := rfl
@[simp] theorem setNow_ftTLast (t : Time) : (setNow t s).ftTLast = s.ftTLast := rfl
@[simp] theorem setNow_ftCool (t : Time) : (setNow t s).ftCool = s.ftCool := rfl
@[simp] theorem setNow_rx (t : Time) : (setNow t s).rx = s.rx := rfl
@[simp] theorem setNow_tx (t : Time) : (setNow t s).tx = s.tx := rfl
@[simp] theorem setNow_now (t : Time) : (setNow t s).now = t := rfl
@[simp] theorem setNow_pool (t : Time) : (setNow t s).pool = s.pool := rfl
@[simp] theorem setNow_cursor (t : Time) : (setNow t s).cursor = s.cursor := rfl
@[simp] theorem setNow_txCmd (t : Time) : (setNow t s).txCmd = s.txCmd := rfl
@[simp] theorem setNow_activateClimate (t : Time) : (setNow t s).activateClimate = s.activateClimate := rfl
@[simp] theorem setNow_activateSwingMode (t : Time) : (setNow t s).activateSwingMode = s.activateSwingMode := rfl
@[simp] theorem setNow_refreshRequested (t : Time) : (setNow t s).refreshRequested = s.refreshRequested := rfl
@[simp] theorem setNow_supportRH (t : Time) : (setNow t s).supportRH = s.supportRH := rfl
@[simp] theorem setNow_supportRa (t : Time) : (setNow t s).supportRa = s.supportRa := rfl
@[simp] theorem setNow_supportRG (t : Time) : (setNow t s).supportRG = s.supportRG := rfl
@[simp] theorem setNow_ready (t : Time) : (setNow t s).ready = s.ready := rfl
@[simp] theorem setNow_diagMode (t : Time) : (setNow t s).diagMode = s.diagMode := rfl
@[simp] theorem setNow_active (t : Time) : (setNow t s).active = s.active := rfl
@[simp] theorem setNow_pending (t : Time) : (setNow t s).pending = s.pending := rfl
@[simp] theorem setNow_tempInside (t : Time) : (setNow t s).tempInside = s.tempInside := rfl
@[simp] theorem setNow_tempOutside (t : Time) : (setNow t s).tempOutside = s.tempOutside := rfl
@[simp] theorem setNow_tempCoil (t : Time) : (setNow t s).tempCoil = s.tempCoil := rfl
@[simp] theorem setNow_fanRpm (t : Time) : (setNow t s).fanRpm = s.fanRpm := rfl
@[simp] theorem setNow_compressorHz (t : Time) : (setNow t s).compressorHz = s.compressorHz := rfl
@[simp] theorem setNow_swingVerticalAngle (t : Time) : (setNow t s).swingVerticalAngle = s.swingVerticalAngle := rfl
@[simp] theorem setNow_diffCache (t : Time) : (setNow t s).diffCache = s.diffCache := rfl
@[simp] theorem setNow_report (t : Time) : (setNow t s).report = s.report := rfl
@[simp] theorem setNow_ret (t : Time) : (setNow t s).ret = s.ret := rfl
@[simp] theorem setNow_inputs (t : Time) : (setNow t s).inputs = s.inputs := rfl
@[simp] theorem setNow_cfg (t : Time) : (setNow t s).cfg = s.cfg := rfl
@[simp] theorem setNow_freeCount (t : Time) : (setNow t s).freeCount = s.freeCount := rfl

/-! ## complete -/

@[simp] theorem complete_ftState (t : CoolSel) : (complete t s).ftState = .cooldown := rfl
@[simp] theorem complete_ftBuf (t : CoolSel) : (complete t s).ftBuf = s.ftBuf := rfl
@[simp] theorem complete_ftTLast (t : CoolSel) : (complete t s).ftTLast = s.ftTLast := rfl
@[simp] theorem complete_ftCool (t : CoolSel) : (complete t s).ftCool = coolLength s.cfg t := rfl
@[simp] theorem complete_rx (t : CoolSel) : (complete t s).rx = s.rx := rfl
@[simp] theorem complete_tx (t : CoolSel) : (complete t s).tx = s.tx := rfl
@[simp] theorem complete_now (t : CoolSel) : (complete t s).now = s.now := rfl
@[simp] theorem complete_pool (t : CoolSel) : (complete t s).pool = s.pool := rfl
@[simp] theorem complete_cursor (t : CoolSel) : (complete t s).cursor = s.cursor := rfl
@[simp] theorem complete_txCmd (t : CoolSel) : (complete t s).txCmd = s.txCmd := rfl
@[simp] theorem complete_activateClimate (t : CoolSel) : (complete t s).activateClimate = s.activateClimate := rfl
@[simp] theorem complete_activateSwingMode (t : CoolSel) : (complete t s).activateSwingMode = s.activateSwingMode := rfl
@[simp] theorem complete_refreshRequested (t : CoolSel) : (complete t s).refreshRequested = s.refreshRequested := rfl
@[simp] theorem complete_supportRH (t : CoolSel) : (complete t s).supportRH = s.supportRH := rfl
@[simp] theorem complete_supportRa (t : CoolSel) : (complete t s).supportRa = s.supportRa := rfl
@[simp] theorem complete_supportRG (t : CoolSel) : (complete t s).supportRG = s.supportRG := rfl
@[simp] theorem complete_ready (t : CoolSel) : (complete t s).ready = s.ready := rfl
@[simp] theorem complete_diagMode (t : CoolSel) : (complete t s).diagMode = s.diagMode := rfl
@[simp] theorem complete_active (t : CoolSel) : (complete t s).active = s.active := rfl
@[simp] theorem complete_pending (t : CoolSel) : (complete t s).pending = s.pending := rfl
@[simp] theorem complete_tempInside (t : CoolSel) : (complete t s).tempInside = s.tempInside := rfl
@[simp] theorem complete_tempOutside (t : CoolSel) : (complete t s).tempOutside = s.tempOutside := rfl
@[simp] theorem complete_tempCoil (t : CoolSel) : (complete t s).tempCoil = s.tempCoil := rfl
@[simp] theorem complete_fanRpm (t : CoolSel) : (complete t s).fanRpm = s.fanRpm := rfl
@[simp] theorem complete_compressorHz (t : CoolSel) : (complete t s).compressorHz = s.compressorHz := rfl
@[simp] theorem complete_swingVerticalAngle (t : CoolSel) : (complete t s).swingVerticalAngle = s.swingVerticalAngle := rfl
@[simp] theorem complete_diffCache (t : CoolSel) : (complete t s).diffCache = s.diffCache := rfl
@[simp] theorem complete_report (t : CoolSel) : (complete t s).report = s.report := rfl
@[simp] theorem complete_ret (t : CoolSel) : (complete t s).ret = s.ret := rfl
@[simp] theorem complete_inputs (t : CoolSel) : (complete t s).inputs = s.inputs := rfl
@[simp] theorem complete_cfg (t : CoolSel) : (complete t s).cfg = s.cfg := rfl
@[simp] theorem complete_freeCount (t : CoolSel) : (complete t s).freeCount = s.freeCount := rfl

/-! ## returnToIdle -/

@[simp] theorem returnToIdle_ftState : (returnToIdle s).ftState = .idle := rfl
@[simp] theorem returnToIdle_ftBuf : (returnToIdle s).ftBuf = s.ftBuf := rfl
@[simp] theorem returnToIdle_ftTLast : (returnToIdle s).ftTLast = s.ftTLast := rfl
@[simp] theorem returnToIdle_ftCool : (returnToIdle s).ftCool = s.ftCool := rfl
@[simp] theorem returnToIdle_rx : (returnToIdle s).rx = s.rx := rfl
@[simp] theorem returnToIdle_tx : (returnToIdle s).tx = s.tx := rfl
@[simp] theorem returnToIdle_now : (returnToIdle s).now = s.now := rfl
@[simp] theorem returnToIdle_pool : (returnToIdle s).pool = s.pool := rfl
@[simp] theorem returnToIdle_cursor : (returnToIdle s).cursor = s.cursor := rfl
@[simp] theorem returnToIdle_txCmd : (returnToIdle s).txCmd = s.txCmd := rfl
@[simp] theorem returnToIdle_activateClimate : (returnToIdle s).activateClimate = s.activateClimate := rfl
@[simp] theorem returnToIdle_activateSwingMode : (returnToIdle s).activateSwingMode = s.activateSwingMode := rfl
@[simp] theorem returnToIdle_refreshRequested : (returnToIdle s).refreshRequested = s.refreshRequested := rfl
@[simp] theorem returnToIdle_supportRH : (returnToIdle s).supportRH = s.supportRH := rfl
@[simp] theorem returnToIdle_supportRa : (returnToIdle s).supportRa = s.supportRa := rfl
@[simp] theorem returnToIdle_supportRG : (returnToIdle s).supportRG = s.supportRG := rfl
@[simp] theorem returnToIdle_ready : (returnToIdle s).ready = s.ready := rfl
@[simp] theorem returnToIdle_diagMode : (returnToIdle s).diagMode = s.diagMode := rfl
@[simp] theorem returnToIdle_active : (returnToIdle s).active = s.active := rfl
@[simp] theorem returnToIdle_pending : (returnToIdle s).pending = s.pending := rfl
@[simp] theorem returnToIdle_tempInside : (returnToIdle s).tempInside = s.tempInside := rfl
@[simp] theorem returnToIdle_tempOutside : (returnToIdle s).tempOutside = s.tempOutside := rfl
@[simp] theorem returnToIdle_tempCoil : (returnToIdle s).tempCoil = s.tempCoil := rfl
@[simp] theorem returnToIdle_fanRpm : (returnToIdle s).fanRpm = s.fanRpm := rfl
@[simp] theorem returnToIdle_compressorHz : (returnToIdle s).compressorHz = s.compressorHz := rfl
@[simp] theorem returnToIdle_swingVerticalAngle : (returnToIdle s).swingVerticalAngle = s.swingVerticalAngle := rfl
@[simp] theorem returnToIdle_diffCache : (returnToIdle s).diffCache = s.diffCache := rfl
@[simp] theorem returnToIdle_report : (returnToIdle s).report = s.report := rfl
@[simp] theorem returnToIdle_ret : (returnToIdle s).ret = s.ret := rfl
@[simp] theorem returnToIdle_inputs : (returnToIdle s).inputs = s.inputs := rfl
@[simp] theorem returnToIdle_cfg : (returnToIdle s).cfg = s.cfg := rfl
@[simp] theorem returnToIdle_freeCount : (returnToIdle s).freeCount = s.freeCount := rfl

/-! ## errorReaction -/

@[simp] theorem errorReaction_ftState : (errorReaction s).ftState = s.ftState := rfl
@[simp] theorem errorReaction_ftBuf : (errorReaction s).ftBuf = s.ftBuf := rfl
@[simp] theorem errorReaction_ftTLast : (errorReaction s).ftTLast = s.ftTLast := rfl
@[simp] theorem errorReaction_ftCool : (errorReaction s).ftCool = s.ftCool := rfl
@[simp] theorem errorReaction_rx : (errorReaction s).rx = s.rx := rfl
@[simp] theorem errorReaction_tx : (errorReaction s).tx = s.tx := rfl
@[simp] theorem errorReaction_now : (errorReaction s).now = s.now := rfl
@[simp] theorem errorReaction_pool : (errorReaction s).pool = s.pool := rfl
@[simp] theorem errorReaction_cursor : (errorReaction s).cursor = s.pool.length := rfl
@[simp] theorem errorReaction_txCmd : (errorReaction s).txCmd = s.txCmd := rfl
@[simp] theorem errorReaction_activateClimate : (errorReaction s).activateClimate = false := rfl
@[simp] theorem errorReaction_activateSwingMode : (errorReaction s).activateSwingMode = false := rfl
@[simp] theorem errorReaction_refreshRequested : (errorReaction s).refreshRequested = true := rfl
@[simp] theorem errorReaction_supportRH : (errorReaction s).supportRH = s.supportRH := rfl
@[simp] theorem errorReaction_supportRa : (errorReaction s).supportRa = s.supportRa := rfl
@[simp] theorem errorReaction_supportRG : (errorReaction s).supportRG = s.supportRG := rfl
@[simp] theorem errorReaction_ready : (errorReaction s).ready = s.ready := rfl
@[simp] theorem errorReaction_diagMode : (errorReaction s).diagMode = s.diagMode := rfl
@[simp] theorem errorReaction_active : (errorReaction s).active = s.active := rfl
@[simp] theorem errorReaction_pending : (errorReaction s).pending = s.pending := rfl
@[simp] theorem errorReaction_tempInside : (errorReaction s).tempInside = s.tempInside := rfl
@[simp] theorem errorReaction_tempOutside : (errorReaction s).tempOutside = s.tempOutside := rfl
@[simp] theorem errorReaction_tempCoil : (errorReaction s).tempCoil = s.tempCoil := rfl
@[simp] theorem errorReaction_fanRpm : (errorReaction s).fanRpm = s.fanRpm := rfl
@[simp] theorem errorReaction_compressorHz : (errorReaction s).compressorHz = s.compressorHz := rfl
@[simp] theorem errorReaction_swingVerticalAngle : (errorReaction s).swingVerticalAngle = s.swingVerticalAngle := rfl
@[simp] theorem errorReaction_diffCache : (errorReaction s).diffCache = s.diffCache := rfl
@[simp] theorem errorReaction_report : (errorReaction s).report = s.report := rfl
@[simp] theorem errorReaction_ret : (errorReaction s).ret = s.ret := rfl
@[simp] theorem errorReaction_inputs : (errorReaction s).inputs = s.inputs := rfl
@[simp] theorem errorReaction_cfg : (errorReaction s).cfg = s.cfg := rfl
@[simp] theorem errorReaction_freeCount : (errorReaction s).freeCount = s.freeCount := rfl

/-! ## timeoutReaction -/

@[simp] theorem timeoutReaction_ftState : (timeoutReaction s).ftState = s.ftState := rfl
@[simp] theorem timeoutReaction_ftBuf : (timeoutReaction s).ftBuf = s.ftBuf := rfl
@[simp] theorem timeoutReaction_ftTLast : (timeoutReaction s).ftTLast = s.ftTLast := rfl
@[simp] theorem timeoutReaction_ftCool : (timeoutReaction s).ftCool = s.ftCool := rfl
@[simp] theorem timeoutReaction_rx : (timeoutReaction s).rx = s.rx := rfl
@[simp] theorem timeoutReaction_tx : (timeoutReaction s).tx = s.tx := rfl
@[simp] theorem timeoutReaction_now : (timeoutReaction s).now = s.now := rfl
@[simp] theorem timeoutReaction_pool : (timeoutReaction s).pool = s.pool := rfl
@[simp] theorem timeoutReaction_cursor : (timeoutReaction s).cursor = s.cursor := rfl
@[simp] theorem timeoutReaction_txCmd : (timeoutReaction s).txCmd = s.txCmd := rfl
@[simp] theorem timeoutReaction_activateClimate : (timeoutReaction s).activateClimate = s.activateClimate := rfl
@[simp] theorem timeoutReaction_activateSwingMode : (timeoutReaction s).activateSwingMode = s.activateSwingMode := rfl
@[simp] theorem timeoutReaction_refreshRequested : (timeoutReaction s).refreshRequested = s.refreshRequested := rfl
@[simp] theorem timeoutReaction_supportRH : (timeoutReaction s).supportRH = s.supportRH := rfl
@[simp] theorem timeoutReaction_supportRa : (timeoutReaction s).supportRa = s.supportRa := rfl
@[simp] theorem timeoutReaction_supportRG : (timeoutReaction s).supportRG = s.supportRG := rfl
@[simp] theorem timeoutReaction_ready : (timeoutReaction s).ready = s.ready := rfl
@[simp] theorem timeoutReaction_diagMode : (timeoutReaction s).diagMode = s.diagMode := rfl
@[simp] theorem timeoutReaction_active : (timeoutReaction s).active = s.active := rfl
@[simp] theorem timeoutReaction_pending : (timeoutReaction s).pending = s.pending := rfl
@[simp] theorem timeoutReaction_tempInside : (timeoutReaction s).tempInside = s.tempInside := rfl
@[simp] theorem timeoutReaction_tempOutside : (timeoutReaction s).tempOutside = s.tempOutside := rfl
@[simp] theorem timeoutReaction_tempCoil : (timeoutReaction s).tempCoil = s.tempCoil := rfl
@[simp] theorem timeoutReaction_fanRpm : (timeoutReaction s).fanRpm = s.fanRpm := rfl
@[simp] theorem timeoutReaction_compressorHz : (timeoutReaction s).compressorHz = s.compressorHz := rfl
@[simp] theorem timeoutReaction_swingVerticalAngle : (timeoutReaction s).swingVerticalAngle = s.swingVerticalAngle := rfl
@[simp] theorem timeoutReaction_diffCache : (timeoutReaction s).diffCache = s.diffCache := rfl
@[simp] theorem timeoutReaction_report : (timeoutReaction s).report = s.report ++ [.tickResult .timeout] := rfl
@[simp] theorem timeoutReaction_ret : (timeoutReaction s).ret = s.ret := rfl
@[simp] theorem timeoutReaction_inputs : (timeoutReaction s).inputs = s.inputs := rfl
@[simp] theorem timeoutReaction_cfg : (timeoutReaction s).cfg = s.cfg := rfl
@[simp] theorem timeoutReaction_freeCount : (timeoutReaction s).freeCount = s.freeCount := rfl

end Sys2Proof.Machine
end

