-- ==== Sys2Proof/Laws/Ops.lean ====
section
/-! SUPPORT. One lemma for each shared operation of Machine/Ops.lean and Machine/Operands.lean that says what it does. -/

namespace Sys2Proof.Machine

/-! ## Selection and timers -/

theorem select_true (t : State) : select true t = .next t := rfl

/-- A selected operation is the only one that answers a next state. -/
theorem select_next_iff (c : Bool) (t u : State) : select c t = .next u ↔ c = true ∧ u = t := by
  cases c <;> simp [select, eq_comm]

theorem elapsed_iff (s : State) (t : Time) (n : Nat) : elapsed s t n = true ↔ n ≤ (s.now - t).toNat := by
  simp [elapsed]

theorem receiving_iff (c : CommState) : c.receiving = true ↔ c ≠ .idle ∧ c ≠ .cooldown := by
  cases c <;> simp [CommState.receiving]

/-! ## Pool and cursor -/

theorem poolErase_length (pool : List Code) (i : Nat) (h : i < pool.length) :
    (poolErase pool i).length + 1 = pool.length := by
  simp [poolErase]; omega

theorem poolErase_eq_eraseIdx (pool : List Code) (i : Nat) : poolErase pool i = pool.eraseIdx i := by
  simp [poolErase, List.eraseIdx_eq_take_drop_succ]

theorem poolErase_sublist (pool : List Code) (i : Nat) : (poolErase pool i).Sublist pool := by
  rw [poolErase_eq_eraseIdx]; exact List.eraseIdx_sublist _ _

/-- An entry before the erased one keeps its index, one after it moves down by one. -/
theorem poolErase_getElem? (pool : List Code) (i j : Nat) :
    (poolErase pool i)[j]? = if j < i then pool[j]? else pool[j + 1]? := by
  rw [poolErase_eq_eraseIdx, List.getElem?_eraseIdx]

theorem removeValue_eq_erase (pool : List Code) (c : Code) : removeValue pool c = pool.erase c := by
  induction pool with
  | nil => rfl
  | cons h t ih => by_cases hc : h = c <;> simp [removeValue, hc, ih]

theorem removeValue_sublist (pool : List Code) (c : Code) : (removeValue pool c).Sublist pool := by
  rw [removeValue_eq_erase]; exact List.erase_sublist

/-- `advance` writes the cursor alone. -/
theorem advanceCursor_eq (s : State) :
    advanceCursor s = { s with cursor := if s.cursor < s.pool.length then s.cursor + 1 else s.cursor } := by
  unfold advanceCursor; split <;> simp_all

/-! ## Diff cache -/

/-- Different codes have different numbers. -/
theorem codeKey_injective : ∀ c d : Code, codeKey c = codeKey d → c = d
  | [], [], _ => rfl
  | [], b :: t, h => by simp only [codeKey] at h; omega
  | b :: t, [], h => by simp only [codeKey] at h; omega
  | b :: t, b' :: t', h => by
    have hb := b.isLt
    have hb' := b'.isLt
    simp only [codeKey] at h
    have h1 : b.toNat = b'.toNat := by omega
    have h2 : codeKey t = codeKey t' := by omega
    rw [BitVec.eq_of_toNat_eq h1, codeKey_injective t t' h2]

theorem cacheLookup_insert_self (c : Code) (p : List Byte) (m : List (Code × List Byte)) :
    cacheLookup c (cacheInsert c p m) = some p := by
  induction m with
  | nil => simp [cacheInsert, cacheLookup]
  | cons e t ih =>
    obtain ⟨k, v⟩ := e
    simp only [cacheInsert]
    split
    · simp [cacheLookup]
    · split <;> simp_all [cacheLookup]

theorem cacheLookup_insert_other (c d : Code) (p : List Byte) (m : List (Code × List Byte)) (h : d ≠ c) :
    cacheLookup d (cacheInsert c p m) = cacheLookup d m := by
  induction m with
  | nil => simp [cacheInsert, cacheLookup, Ne.symm h]
  | cons e t ih =>
    obtain ⟨k, v⟩ := e
    simp only [cacheInsert]
    split
    · subst k; simp [cacheLookup, Ne.symm h]
    · split
      · simp [cacheLookup, Ne.symm h]
      · simp [cacheLookup, ih]

/-- Every key of the cache is above `n`. -/
def cacheAbove (n : Nat) (m : List (Code × List Byte)) : Prop := ∀ e ∈ m, n < codeKey e.1

theorem cacheWf_cons_iff (e : Code × List Byte) (m : List (Code × List Byte)) :
    cacheWf (e :: m) = true ↔ cacheAbove (codeKey e.1) m ∧ cacheWf m = true := by
  induction m generalizing e with
  | nil => simp [cacheWf, cacheAbove]
  | cons e' t ih =>
    simp only [cacheWf, Bool.and_eq_true, decide_eq_true_eq, ih e', cacheAbove, List.mem_cons, forall_eq_or_imp]
    constructor
    · rintro ⟨h, h1, h2⟩; exact ⟨⟨h, fun x hx => Nat.lt_trans h (h1 x hx)⟩, h1, h2⟩
    · rintro ⟨⟨h, -⟩, h1, h2⟩; exact ⟨h, h1, h2⟩

theorem cacheAbove_insert (n : Nat) (c : Code) (p : List Byte) (m : List (Code × List Byte)) (hc : n < codeKey c)
    (h : cacheAbove n m) : cacheAbove n (cacheInsert c p m) := by
  induction m with
  | nil => simpa [cacheInsert, cacheAbove] using hc
  | cons e t ih =>
    have ht : cacheAbove n t := fun x hx => h x (List.mem_cons_of_mem _ hx)
    have he := h e (List.mem_cons_self ..)
    simp only [cacheInsert]
    split
    · intro x hx
      rcases List.mem_cons.mp hx with rfl | hx
      · exact hc
      · exact ht x hx
    · split
      · intro x hx
        rcases List.mem_cons.mp hx with rfl | hx
        · exact hc
        · exact h x hx
      · intro x hx
        rcases List.mem_cons.mp hx with rfl | hx
        · exact he
        · exact ih ht x hx

/-- The write of the diff cache keeps its canonical form. -/
theorem cacheWf_insert (c : Code) (p : List Byte) (m : List (Code × List Byte)) (h : cacheWf m = true) :
    cacheWf (cacheInsert c p m) = true := by
  induction m with
  | nil => rfl
  | cons e t ih =>
    obtain ⟨ha, ht⟩ := (cacheWf_cons_iff e t).mp h
    simp only [cacheInsert]
    split
    · rename_i hk; subst hk; exact (cacheWf_cons_iff _ _).mpr ⟨ha, ht⟩
    · rename_i hk
      split
      · rename_i hlt
        refine (cacheWf_cons_iff _ _).mpr ⟨?_, h⟩
        intro x hx
        rcases List.mem_cons.mp hx with rfl | hx
        · exact hlt
        · exact Nat.lt_trans hlt (ha x hx)
      · rename_i hlt
        have hne : codeKey e.1 ≠ codeKey c := fun he => hk (codeKey_injective _ _ he)
        exact (cacheWf_cons_iff _ _).mpr ⟨cacheAbove_insert _ _ _ _ (Nat.lt_of_le_of_ne (Nat.le_of_not_lt hlt) hne) ha, ih ht⟩

/-- The diff cache of the reset state is in canonical form. -/
theorem reset_cacheWf : cacheWf State.reset.diffCache = true := rfl

/-! ## Free values -/

/-- `tx_cmd` holds a code of 1 or 2 bytes whatever the free values are. -/
theorem freeTxCmd_length (n : Nat) : 1 ≤ (freeTxCmd n).length ∧ (freeTxCmd n).length ≤ maxCmdLen := by
  unfold freeTxCmd; split <;> simp [maxCmdLen]

/-! ## Checksum -/

theorem sum8_toNat (body : List Byte) : (sum8 body).toNat = (body.map BitVec.toNat).sum % 256 := by
  induction body with
  | nil => rfl
  | cons b t ih => simp [sum8, ih]

theorem sum8_eq_iff (body : List Byte) (b : Byte) : sum8 body = b ↔ (body.map BitVec.toNat).sum % 256 = b.toNat := by
  rw [← sum8_toNat]; exact BitVec.toNat_inj.symm

/-- The checksum never is `STX` (30_encoding.md R97). -/
theorem checksum_ne_stx (body : List Byte) : checksum body ≠ stxByte := by
  unfold checksum; split
  · decide
  · assumption

/-- A buffer that ends in the checksum of what stands before it. -/
theorem frameOk_append (body : List Byte) (t : Byte) : frameOk (body ++ [t]) = decide (t = checksum body) := by
  simp [frameOk]

end Sys2Proof.Machine
end

