-- ==== Sys2Proof/Laws/Frames.lean ====
section
/-! SUPPORT. For each operation of the link and of the Session, the frame: it is the state it began in with the named fields
replaced, and every other field keeps its value. -/

namespace Sys2Proof.Machine

/-- `handle_rx` writes the link state, the buffer, the cooldown length and `tx` (40_transport.md R137). -/
theorem handleRx_frame (b : Byte) (s : State) :
    ∃ v0 v1 v2 v3, (handleRx b s).2 = { s with
      ftState := v0, ftBuf := v1, ftCool := v2, tx := v3 } := by
  unfold handleRx
  cases rxRow s b
  case qetxData => simp only [runRx, rxData]; split <;> exact ⟨_, _, _, _, rfl⟩
  all_goals exact ⟨_, _, _, _, rfl⟩

@[simp] theorem handleRx_ftTLast (b : Byte) (s : State) : (handleRx b s).2.ftTLast = s.ftTLast := by
  obtain ⟨_, _, _, _, h⟩ := handleRx_frame b s; rw [h]
@[simp] theorem handleRx_rx (b : Byte) (s : State) : (handleRx b s).2.rx = s.rx := by
  obtain ⟨_, _, _, _, h⟩ := handleRx_frame b s; rw [h]
@[simp] theorem handleRx_now (b : Byte) (s : State) : (handleRx b s).2.now = s.now := by
  obtain ⟨_, _, _, _, h⟩ := handleRx_frame b s; rw [h]
@[simp] theorem handleRx_pool (b : Byte) (s : State) : (handleRx b s).2.pool = s.pool := by
  obtain ⟨_, _, _, _, h⟩ := handleRx_frame b s; rw [h]
@[simp] theorem handleRx_cursor (b : Byte) (s : State) : (handleRx b s).2.cursor = s.cursor := by
  obtain ⟨_, _, _, _, h⟩ := handleRx_frame b s; rw [h]
@[simp] theorem handleRx_txCmd (b : Byte) (s : State) : (handleRx b s).2.txCmd = s.txCmd := by
  obtain ⟨_, _, _, _, h⟩ := handleRx_frame b s; rw [h]
@[simp] theorem handleRx_activateClimate (b : Byte) (s : State) : (handleRx b s).2.activateClimate = s.activateClimate := by
  obtain ⟨_, _, _, _, h⟩ := handleRx_frame b s; rw [h]
@[simp] theorem handleRx_activateSwingMode (b : Byte) (s : State) : (handleRx b s).2.activateSwingMode = s.activateSwingMode := by
  obtain ⟨_, _, _, _, h⟩ := handleRx_frame b s; rw [h]
@[simp] theorem handleRx_refreshRequested (b : Byte) (s : State) : (handleRx b s).2.refreshRequested = s.refreshRequested := by
  obtain ⟨_, _, _, _, h⟩ := handleRx_frame b s; rw [h]
@[simp] theorem handleRx_supportRH (b : Byte) (s : State) : (handleRx b s).2.supportRH = s.supportRH := by
  obtain ⟨_, _, _, _, h⟩ := handleRx_frame b s; rw [h]
@[simp] theorem handleRx_supportRa (b : Byte) (s : State) : (handleRx b s).2.supportRa = s.supportRa := by
  obtain ⟨_, _, _, _, h⟩ := handleRx_frame b s; rw [h]
@[simp] theorem handleRx_supportRG (b : Byte) (s : State) : (handleRx b s).2.supportRG = s.supportRG := by
  obtain ⟨_, _, _, _, h⟩ := handleRx_frame b s; rw [h]
@[simp] theorem handleRx_ready (b : Byte) (s : State) : (handleRx b s).2.ready = s.ready := by
  obtain ⟨_, _, _, _, h⟩ := handleRx_frame b s; rw [h]
@[simp] theorem handleRx_diagMode (b : Byte) (s : State) : (handleRx b s).2.diagMode = s.diagMode := by
  obtain ⟨_, _, _, _, h⟩ := handleRx_frame b s; rw [h]
@[simp] theorem handleRx_active (b : Byte) (s : State) : (handleRx b s).2.active = s.active := by
  obtain ⟨_, _, _, _, h⟩ := handleRx_frame b s; rw [h]
@[simp] theorem handleRx_pending (b : Byte) (s : State) : (handleRx b s).2.pending = s.pending := by
  obtain ⟨_, _, _, _, h⟩ := handleRx_frame b s; rw [h]
@[simp] theorem handleRx_tempInside (b : Byte) (s : State) : (handleRx b s).2.tempInside = s.tempInside := by
  obtain ⟨_, _, _, _, h⟩ := handleRx_frame b s; rw [h]
@[simp] theorem handleRx_tempOutside (b : Byte) (s : State) : (handleRx b s).2.tempOutside = s.tempOutside := by
  obtain ⟨_, _, _, _, h⟩ := handleRx_frame b s; rw [h]
@[simp] theorem handleRx_tempCoil (b : Byte) (s : State) : (handleRx b s).2.tempCoil = s.tempCoil := by
  obtain ⟨_, _, _, _, h⟩ := handleRx_frame b s; rw [h]
@[simp] theorem handleRx_fanRpm (b : Byte) (s : State) : (handleRx b s).2.fanRpm = s.fanRpm := by
  obtain ⟨_, _, _, _, h⟩ := handleRx_frame b s; rw [h]
@[simp] theorem handleRx_compressorHz (b : Byte) (s : State) : (handleRx b s).2.compressorHz = s.compressorHz := by
  obtain ⟨_, _, _, _, h⟩ := handleRx_frame b s; rw [h]
@[simp] theorem handleRx_swingVerticalAngle (b : Byte) (s : State) : (handleRx b s).2.swingVerticalAngle = s.swingVerticalAngle := by
  obtain ⟨_, _, _, _, h⟩ := handleRx_frame b s; rw [h]
@[simp] theorem handleRx_diffCache (b : Byte) (s : State) : (handleRx b s).2.diffCache = s.diffCache := by
  obtain ⟨_, _, _, _, h⟩ := handleRx_frame b s; rw [h]
@[simp] theorem handleRx_report (b : Byte) (s : State) : (handleRx b s).2.report = s.report := by
  obtain ⟨_, _, _, _, h⟩ := handleRx_frame b s; rw [h]
@[simp] theorem handleRx_ret (b : Byte) (s : State) : (handleRx b s).2.ret = s.ret := by
  obtain ⟨_, _, _, _, h⟩ := handleRx_frame b s; rw [h]
@[simp] theorem handleRx_inputs (b : Byte) (s : State) : (handleRx b s).2.inputs = s.inputs := by
  obtain ⟨_, _, _, _, h⟩ := handleRx_frame b s; rw [h]
@[simp] theorem handleRx_cfg (b : Byte) (s : State) : (handleRx b s).2.cfg = s.cfg := by
  obtain ⟨_, _, _, _, h⟩ := handleRx_frame b s; rw [h]
@[simp] theorem handleRx_freeCount (b : Byte) (s : State) : (handleRx b s).2.freeCount = s.freeCount := by
  obtain ⟨_, _, _, _, h⟩ := handleRx_frame b s; rw [h]

/-- The byte loop writes the link, `rx` and `tx` (40_transport.md R135). -/
theorem rxLoop_frame (bs : List Byte) (s : State) :
    ∃ v0 v1 v2 v3 v4 v5, (rxLoop bs s).2 = { s with
      ftState := v0, ftBuf := v1, ftTLast := v2, ftCool := v3, rx := v4, tx := v5 } := by
  induction bs generalizing s with
  | nil => exact ⟨_, _, _, _, _, _, rfl⟩
  | cons b rest ih =>
    obtain ⟨_, _, _, _, h⟩ := handleRx_frame b (rxConsume rest s)
    simp only [rxLoop]
    split
    · rename_i r t heq
      simp only [heq] at h
      subst h; exact ⟨_, _, _, _, _, _, rfl⟩
    · rename_i t heq
      simp only [heq] at h
      obtain ⟨_, _, _, _, _, _, h'⟩ := ih t
      rw [h', h]; exact ⟨_, _, _, _, _, _, rfl⟩

@[simp] theorem rxLoop_now (bs : List Byte) (s : State) : (rxLoop bs s).2.now = s.now := by
  obtain ⟨_, _, _, _, _, _, h⟩ := rxLoop_frame bs s; rw [h]
@[simp] theorem rxLoop_pool (bs : List Byte) (s : State) : (rxLoop bs s).2.pool = s.pool := by
  obtain ⟨_, _, _, _, _, _, h⟩ := rxLoop_frame bs s; rw [h]
@[simp] theorem rxLoop_cursor (bs : List Byte) (s : State) : (rxLoop bs s).2.cursor = s.cursor := by
  obtain ⟨_, _, _, _, _, _, h⟩ := rxLoop_frame bs s; rw [h]
@[simp] theorem rxLoop_txCmd (bs : List Byte) (s : State) : (rxLoop bs s).2.txCmd = s.txCmd := by
  obtain ⟨_, _, _, _, _, _, h⟩ := rxLoop_frame bs s; rw [h]
@[simp] theorem rxLoop_activateClimate (bs : List Byte) (s : State) : (rxLoop bs s).2.activateClimate = s.activateClimate := by
  obtain ⟨_, _, _, _, _, _, h⟩ := rxLoop_frame bs s; rw [h]
@[simp] theorem rxLoop_activateSwingMode (bs : List Byte) (s : State) : (rxLoop bs s).2.activateSwingMode = s.activateSwingMode := by
  obtain ⟨_, _, _, _, _, _, h⟩ := rxLoop_frame bs s; rw [h]
@[simp] theorem rxLoop_refreshRequested (bs : List Byte) (s : State) : (rxLoop bs s).2.refreshRequested = s.refreshRequested := by
  obtain ⟨_, _, _, _, _, _, h⟩ := rxLoop_frame bs s; rw [h]
@[simp] theorem rxLoop_supportRH (bs : List Byte) (s : State) : (rxLoop bs s).2.supportRH = s.supportRH := by
  obtain ⟨_, _, _, _, _, _, h⟩ := rxLoop_frame bs s; rw [h]
@[simp] theorem rxLoop_supportRa (bs : List Byte) (s : State) : (rxLoop bs s).2.supportRa = s.supportRa := by
  obtain ⟨_, _, _, _, _, _, h⟩ := rxLoop_frame bs s; rw [h]
@[simp] theorem rxLoop_supportRG (bs : List Byte) (s : State) : (rxLoop bs s).2.supportRG = s.supportRG := by
  obtain ⟨_, _, _, _, _, _, h⟩ := rxLoop_frame bs s; rw [h]
@[simp] theorem rxLoop_ready (bs : List Byte) (s : State) : (rxLoop bs s).2.ready = s.ready := by
  obtain ⟨_, _, _, _, _, _, h⟩ := rxLoop_frame bs s; rw [h]
@[simp] theorem rxLoop_diagMode (bs : List Byte) (s : State) : (rxLoop bs s).2.diagMode = s.diagMode := by
  obtain ⟨_, _, _, _, _, _, h⟩ := rxLoop_frame bs s; rw [h]
@[simp] theorem rxLoop_active (bs : List Byte) (s : State) : (rxLoop bs s).2.active = s.active := by
  obtain ⟨_, _, _, _, _, _, h⟩ := rxLoop_frame bs s; rw [h]
@[simp] theorem rxLoop_pending (bs : List Byte) (s : State) : (rxLoop bs s).2.pending = s.pending := by
  obtain ⟨_, _, _, _, _, _, h⟩ := rxLoop_frame bs s; rw [h]
@[simp] theorem rxLoop_tempInside (bs : List Byte) (s : State) : (rxLoop bs s).2.tempInside = s.tempInside := by
  obtain ⟨_, _, _, _, _, _, h⟩ := rxLoop_frame bs s; rw [h]
@[simp] theorem rxLoop_tempOutside (bs : List Byte) (s : State) : (rxLoop bs s).2.tempOutside = s.tempOutside := by
  obtain ⟨_, _, _, _, _, _, h⟩ := rxLoop_frame bs s; rw [h]
@[simp] theorem rxLoop_tempCoil (bs : List Byte) (s : State) : (rxLoop bs s).2.tempCoil = s.tempCoil := by
  obtain ⟨_, _, _, _, _, _, h⟩ := rxLoop_frame bs s; rw [h]
@[simp] theorem rxLoop_fanRpm (bs : List Byte) (s : State) : (rxLoop bs s).2.fanRpm = s.fanRpm := by
  obtain ⟨_, _, _, _, _, _, h⟩ := rxLoop_frame bs s; rw [h]
@[simp] theorem rxLoop_compressorHz (bs : List Byte) (s : State) : (rxLoop bs s).2.compressorHz = s.compressorHz := by
  obtain ⟨_, _, _, _, _, _, h⟩ := rxLoop_frame bs s; rw [h]
@[simp] theorem rxLoop_swingVerticalAngle (bs : List Byte) (s : State) : (rxLoop bs s).2.swingVerticalAngle = s.swingVerticalAngle := by
  obtain ⟨_, _, _, _, _, _, h⟩ := rxLoop_frame bs s; rw [h]
@[simp] theorem rxLoop_diffCache (bs : List Byte) (s : State) : (rxLoop bs s).2.diffCache = s.diffCache := by
  obtain ⟨_, _, _, _, _, _, h⟩ := rxLoop_frame bs s; rw [h]
@[simp] theorem rxLoop_report (bs : List Byte) (s : State) : (rxLoop bs s).2.report = s.report := by
  obtain ⟨_, _, _, _, _, _, h⟩ := rxLoop_frame bs s; rw [h]
@[simp] theorem rxLoop_ret (bs : List Byte) (s : State) : (rxLoop bs s).2.ret = s.ret := by
  obtain ⟨_, _, _, _, _, _, h⟩ := rxLoop_frame bs s; rw [h]
@[simp] theorem rxLoop_inputs (bs : List Byte) (s : State) : (rxLoop bs s).2.inputs = s.inputs := by
  obtain ⟨_, _, _, _, _, _, h⟩ := rxLoop_frame bs s; rw [h]
@[simp] theorem rxLoop_cfg (bs : List Byte) (s : State) : (rxLoop bs s).2.cfg = s.cfg := by
  obtain ⟨_, _, _, _, _, _, h⟩ := rxLoop_frame bs s; rw [h]
@[simp] theorem rxLoop_freeCount (bs : List Byte) (s : State) : (rxLoop bs s).2.freeCount = s.freeCount := by
  obtain ⟨_, _, _, _, _, _, h⟩ := rxLoop_frame bs s; rw [h]

/-- `service` writes the link, `rx` and `tx` (40_transport.md R133 to R136). -/
theorem service_frame (s : State) :
    ∃ v0 v1 v2 v3 v4 v5, (service s).2 = { s with
      ftState := v0, ftBuf := v1, ftTLast := v2, ftCool := v3, rx := v4, tx := v5 } := by
  unfold service
  cases serviceRow s s.cfg.tResponse
  · exact ⟨_, _, _, _, _, _, rfl⟩
  · simp only [serviceCooldown]; split <;> exact ⟨_, _, _, _, _, _, rfl⟩
  · exact rxLoop_frame s.rx s
  · exact ⟨_, _, _, _, _, _, rfl⟩

@[simp] theorem service_now (s : State) : (service s).2.now = s.now := by
  obtain ⟨_, _, _, _, _, _, h⟩ := service_frame s; rw [h]
@[simp] theorem service_pool (s : State) : (service s).2.pool = s.pool := by
  obtain ⟨_, _, _, _, _, _, h⟩ := service_frame s; rw [h]
@[simp] theorem service_cursor (s : State) : (service s).2.cursor = s.cursor := by
  obtain ⟨_, _, _, _, _, _, h⟩ := service_frame s; rw [h]
@[simp] theorem service_txCmd (s : State) : (service s).2.txCmd = s.txCmd := by
  obtain ⟨_, _, _, _, _, _, h⟩ := service_frame s; rw [h]
@[simp] theorem service_activateClimate (s : State) : (service s).2.activateClimate = s.activateClimate := by
  obtain ⟨_, _, _, _, _, _, h⟩ := service_frame s; rw [h]
@[simp] theorem service_activateSwingMode (s : State) : (service s).2.activateSwingMode = s.activateSwingMode := by
  obtain ⟨_, _, _, _, _, _, h⟩ := service_frame s; rw [h]
@[simp] theorem service_refreshRequested (s : State) : (service s).2.refreshRequested = s.refreshRequested := by
  obtain ⟨_, _, _, _, _, _, h⟩ := service_frame s; rw [h]
@[simp] theorem service_supportRH (s : State) : (service s).2.supportRH = s.supportRH := by
  obtain ⟨_, _, _, _, _, _, h⟩ := service_frame s; rw [h]
@[simp] theorem service_supportRa (s : State) : (service s).2.supportRa = s.supportRa := by
  obtain ⟨_, _, _, _, _, _, h⟩ := service_frame s; rw [h]
@[simp] theorem service_supportRG (s : State) : (service s).2.supportRG = s.supportRG := by
  obtain ⟨_, _, _, _, _, _, h⟩ := service_frame s; rw [h]
@[simp] theorem service_ready (s : State) : (service s).2.ready = s.ready := by
  obtain ⟨_, _, _, _, _, _, h⟩ := service_frame s; rw [h]
@[simp] theorem service_diagMode (s : State) : (service s).2.diagMode = s.diagMode := by
  obtain ⟨_, _, _, _, _, _, h⟩ := service_frame s; rw [h]
@[simp] theorem service_active (s : State) : (service s).2.active = s.active := by
  obtain ⟨_, _, _, _, _, _, h⟩ := service_frame s; rw [h]
@[simp] theorem service_pending (s : State) : (service s).2.pending = s.pending := by
  obtain ⟨_, _, _, _, _, _, h⟩ := service_frame s; rw [h]
@[simp] theorem service_tempInside (s : State) : (service s).2.tempInside = s.tempInside := by
  obtain ⟨_, _, _, _, _, _, h⟩ := service_frame s; rw [h]
@[simp] theorem service_tempOutside (s : State) : (service s).2.tempOutside = s.tempOutside := by
  obtain ⟨_, _, _, _, _, _, h⟩ := service_frame s; rw [h]
@[simp] theorem service_tempCoil (s : State) : (service s).2.tempCoil = s.tempCoil := by
  obtain ⟨_, _, _, _, _, _, h⟩ := service_frame s; rw [h]
@[simp] theorem service_fanRpm (s : State) : (service s).2.fanRpm = s.fanRpm := by
  obtain ⟨_, _, _, _, _, _, h⟩ := service_frame s; rw [h]
@[simp] theorem service_compressorHz (s : State) : (service s).2.compressorHz = s.compressorHz := by
  obtain ⟨_, _, _, _, _, _, h⟩ := service_frame s; rw [h]
@[simp] theorem service_swingVerticalAngle (s : State) : (service s).2.swingVerticalAngle = s.swingVerticalAngle := by
  obtain ⟨_, _, _, _, _, _, h⟩ := service_frame s; rw [h]
@[simp] theorem service_diffCache (s : State) : (service s).2.diffCache = s.diffCache := by
  obtain ⟨_, _, _, _, _, _, h⟩ := service_frame s; rw [h]
@[simp] theorem service_report (s : State) : (service s).2.report = s.report := by
  obtain ⟨_, _, _, _, _, _, h⟩ := service_frame s; rw [h]
@[simp] theorem service_ret (s : State) : (service s).2.ret = s.ret := by
  obtain ⟨_, _, _, _, _, _, h⟩ := service_frame s; rw [h]
@[simp] theorem service_inputs (s : State) : (service s).2.inputs = s.inputs := by
  obtain ⟨_, _, _, _, _, _, h⟩ := service_frame s; rw [h]
@[simp] theorem service_cfg (s : State) : (service s).2.cfg = s.cfg := by
  obtain ⟨_, _, _, _, _, _, h⟩ := service_frame s; rw [h]
@[simp] theorem service_freeCount (s : State) : (service s).2.freeCount = s.freeCount := by
  obtain ⟨_, _, _, _, _, _, h⟩ := service_frame s; rw [h]

/-- `send_frame` writes the link but for `ft.cool`, `rx` and `tx` (40_transport.md R130 to R132). -/
theorem sendFrame_frame (code : Code) (p : Option Payload) (s : State) :
    ∃ v0 v1 v2 v3 v4, (sendFrame code p s).2 = { s with
      ftState := v0, ftBuf := v1, ftTLast := v2, rx := v3, tx := v4 } := by
  unfold sendFrame
  cases sendRow s code <;> exact ⟨_, _, _, _, _, rfl⟩

@[simp] theorem sendFrame_ftCool (code : Code) (p : Option Payload) (s : State) : (sendFrame code p s).2.ftCool = s.ftCool := by
  obtain ⟨_, _, _, _, _, h⟩ := sendFrame_frame code p s; rw [h]
@[simp] theorem sendFrame_now (code : Code) (p : Option Payload) (s : State) : (sendFrame code p s).2.now = s.now := by
  obtain ⟨_, _, _, _, _, h⟩ := sendFrame_frame code p s; rw [h]
@[simp] theorem sendFrame_pool (code : Code) (p : Option Payload) (s : State) : (sendFrame code p s).2.pool = s.pool := by
  obtain ⟨_, _, _, _, _, h⟩ := sendFrame_frame code p s; rw [h]
@[simp] theorem sendFrame_cursor (code : Code) (p : Option Payload) (s : State) : (sendFrame code p s).2.cursor = s.cursor := by
  obtain ⟨_, _, _, _, _, h⟩ := sendFrame_frame code p s; rw [h]
@[simp] theorem sendFrame_txCmd (code : Code) (p : Option Payload) (s : State) : (sendFrame code p s).2.txCmd = s.txCmd := by
  obtain ⟨_, _, _, _, _, h⟩ := sendFrame_frame code p s; rw [h]
@[simp] theorem sendFrame_activateClimate (code : Code) (p : Option Payload) (s : State) : (sendFrame code p s).2.activateClimate = s.activateClimate := by
  obtain ⟨_, _, _, _, _, h⟩ := sendFrame_frame code p s; rw [h]
@[simp] theorem sendFrame_activateSwingMode (code : Code) (p : Option Payload) (s : State) : (sendFrame code p s).2.activateSwingMode = s.activateSwingMode := by
  obtain ⟨_, _, _, _, _, h⟩ := sendFrame_frame code p s; rw [h]
@[simp] theorem sendFrame_refreshRequested (code : Code) (p : Option Payload) (s : State) : (sendFrame code p s).2.refreshRequested = s.refreshRequested := by
  obtain ⟨_, _, _, _, _, h⟩ := sendFrame_frame code p s; rw [h]
@[simp] theorem sendFrame_supportRH (code : Code) (p : Option Payload) (s : State) : (sendFrame code p s).2.supportRH = s.supportRH := by
  obtain ⟨_, _, _, _, _, h⟩ := sendFrame_frame code p s; rw [h]
@[simp] theorem sendFrame_supportRa (code : Code) (p : Option Payload) (s : State) : (sendFrame code p s).2.supportRa = s.supportRa := by
  obtain ⟨_, _, _, _, _, h⟩ := sendFrame_frame code p s; rw [h]
@[simp] theorem sendFrame_supportRG (code : Code) (p : Option Payload) (s : State) : (sendFrame code p s).2.supportRG = s.supportRG := by
  obtain ⟨_, _, _, _, _, h⟩ := sendFrame_frame code p s; rw [h]
@[simp] theorem sendFrame_ready (code : Code) (p : Option Payload) (s : State) : (sendFrame code p s).2.ready = s.ready := by
  obtain ⟨_, _, _, _, _, h⟩ := sendFrame_frame code p s; rw [h]
@[simp] theorem sendFrame_diagMode (code : Code) (p : Option Payload) (s : State) : (sendFrame code p s).2.diagMode = s.diagMode := by
  obtain ⟨_, _, _, _, _, h⟩ := sendFrame_frame code p s; rw [h]
@[simp] theorem sendFrame_active (code : Code) (p : Option Payload) (s : State) : (sendFrame code p s).2.active = s.active := by
  obtain ⟨_, _, _, _, _, h⟩ := sendFrame_frame code p s; rw [h]
@[simp] theorem sendFrame_pending (code : Code) (p : Option Payload) (s : State) : (sendFrame code p s).2.pending = s.pending := by
  obtain ⟨_, _, _, _, _, h⟩ := sendFrame_frame code p s; rw [h]
@[simp] theorem sendFrame_tempInside (code : Code) (p : Option Payload) (s : State) : (sendFrame code p s).2.tempInside = s.tempInside := by
  obtain ⟨_, _, _, _, _, h⟩ := sendFrame_frame code p s; rw [h]
@[simp] theorem sendFrame_tempOutside (code : Code) (p : Option Payload) (s : State) : (sendFrame code p s).2.tempOutside = s.tempOutside := by
  obtain ⟨_, _, _, _, _, h⟩ := sendFrame_frame code p s; rw [h]
@[simp] theorem sendFrame_tempCoil (code : Code) (p : Option Payload) (s : State) : (sendFrame code p s).2.tempCoil = s.tempCoil := by
  obtain ⟨_, _, _, _, _, h⟩ := sendFrame_frame code p s; rw [h]
@[simp] theorem sendFrame_fanRpm (code : Code) (p : Option Payload) (s : State) : (sendFrame code p s).2.fanRpm = s.fanRpm := by
  obtain ⟨_, _, _, _, _, h⟩ := sendFrame_frame code p s; rw [h]
@[simp] theorem sendFrame_compressorHz (code : Code) (p : Option Payload) (s : State) : (sendFrame code p s).2.compressorHz = s.compressorHz := by
  obtain ⟨_, _, _, _, _, h⟩ := sendFrame_frame code p s; rw [h]
@[simp] theorem sendFrame_swingVerticalAngle (code : Code) (p : Option Payload) (s : State) : (sendFrame code p s).2.swingVerticalAngle = s.swingVerticalAngle := by
  obtain ⟨_, _, _, _, _, h⟩ := sendFrame_frame code p s; rw [h]
@[simp] theorem sendFrame_diffCache (code : Code) (p : Option Payload) (s : State) : (sendFrame code p s).2.diffCache = s.diffCache := by
  obtain ⟨_, _, _, _, _, h⟩ := sendFrame_frame code p s; rw [h]
@[simp] theorem sendFrame_report (code : Code) (p : Option Payload) (s : State) : (sendFrame code p s).2.report = s.report := by
  obtain ⟨_, _, _, _, _, h⟩ := sendFrame_frame code p s; rw [h]
@[simp] theorem sendFrame_ret (code : Code) (p : Option Payload) (s : State) : (sendFrame code p s).2.ret = s.ret := by
  obtain ⟨_, _, _, _, _, h⟩ := sendFrame_frame code p s; rw [h]
@[simp] theorem sendFrame_inputs (code : Code) (p : Option Payload) (s : State) : (sendFrame code p s).2.inputs = s.inputs := by
  obtain ⟨_, _, _, _, _, h⟩ := sendFrame_frame code p s; rw [h]
@[simp] theorem sendFrame_cfg (code : Code) (p : Option Payload) (s : State) : (sendFrame code p s).2.cfg = s.cfg := by
  obtain ⟨_, _, _, _, _, h⟩ := sendFrame_frame code p s; rw [h]
@[simp] theorem sendFrame_freeCount (code : Code) (p : Option Payload) (s : State) : (sendFrame code p s).2.freeCount = s.freeCount := by
  obtain ⟨_, _, _, _, _, h⟩ := sendFrame_frame code p s; rw [h]

/-- `send` writes what `send_frame` writes, and `tx_cmd` (41_scheduler.md R183). -/
theorem send_frame (code : Code) (p : Option Payload) (s : State) :
    ∃ v0 v1 v2 v3 v4 v5, (send code p s).2 = { s with
      ftState := v0, ftBuf := v1, ftTLast := v2, rx := v3, tx := v4, txCmd := v5 } := by
  unfold send sendFrame
  cases sendRow s code <;> exact ⟨_, _, _, _, _, _, rfl⟩

@[simp] theorem send_ftCool (code : Code) (p : Option Payload) (s : State) : (send code p s).2.ftCool = s.ftCool := by
  obtain ⟨_, _, _, _, _, _, h⟩ := send_frame code p s; rw [h]
@[simp] theorem send_now (code : Code) (p : Option Payload) (s : State) : (send code p s).2.now = s.now := by
  obtain ⟨_, _, _, _, _, _, h⟩ := send_frame code p s; rw [h]
@[simp] theorem send_pool (code : Code) (p : Option Payload) (s : State) : (send code p s).2.pool = s.pool := by
  obtain ⟨_, _, _, _, _, _, h⟩ := send_frame code p s; rw [h]
@[simp] theorem send_cursor (code : Code) (p : Option Payload) (s : State) : (send code p s).2.cursor = s.cursor := by
  obtain ⟨_, _, _, _, _, _, h⟩ := send_frame code p s; rw [h]
@[simp] theorem send_activateClimate (code : Code) (p : Option Payload) (s : State) : (send code p s).2.activateClimate = s.activateClimate := by
  obtain ⟨_, _, _, _, _, _, h⟩ := send_frame code p s; rw [h]
@[simp] theorem send_activateSwingMode (code : Code) (p : Option Payload) (s : State) : (send code p s).2.activateSwingMode = s.activateSwingMode := by
  obtain ⟨_, _, _, _, _, _, h⟩ := send_frame code p s; rw [h]
@[simp] theorem send_refreshRequested (code : Code) (p : Option Payload) (s : State) : (send code p s).2.refreshRequested = s.refreshRequested := by
  obtain ⟨_, _, _, _, _, _, h⟩ := send_frame code p s; rw [h]
@[simp] theorem send_supportRH (code : Code) (p : Option Payload) (s : State) : (send code p s).2.supportRH = s.supportRH := by
  obtain ⟨_, _, _, _, _, _, h⟩ := send_frame code p s; rw [h]
@[simp] theorem send_supportRa (code : Code) (p : Option Payload) (s : State) : (send code p s).2.supportRa = s.supportRa := by
  obtain ⟨_, _, _, _, _, _, h⟩ := send_frame code p s; rw [h]
@[simp] theorem send_supportRG (code : Code) (p : Option Payload) (s : State) : (send code p s).2.supportRG = s.supportRG := by
  obtain ⟨_, _, _, _, _, _, h⟩ := send_frame code p s; rw [h]
@[simp] theorem send_ready (code : Code) (p : Option Payload) (s : State) : (send code p s).2.ready = s.ready := by
  obtain ⟨_, _, _, _, _, _, h⟩ := send_frame code p s; rw [h]
@[simp] theorem send_diagMode (code : Code) (p : Option Payload) (s : State) : (send code p s).2.diagMode = s.diagMode := by
  obtain ⟨_, _, _, _, _, _, h⟩ := send_frame code p s; rw [h]
@[simp] theorem send_active (code : Code) (p : Option Payload) (s : State) : (send code p s).2.active = s.active := by
  obtain ⟨_, _, _, _, _, _, h⟩ := send_frame code p s; rw [h]
@[simp] theorem send_pending (code : Code) (p : Option Payload) (s : State) : (send code p s).2.pending = s.pending := by
  obtain ⟨_, _, _, _, _, _, h⟩ := send_frame code p s; rw [h]
@[simp] theorem send_tempInside (code : Code) (p : Option Payload) (s : State) : (send code p s).2.tempInside = s.tempInside := by
  obtain ⟨_, _, _, _, _, _, h⟩ := send_frame code p s; rw [h]
@[simp] theorem send_tempOutside (code : Code) (p : Option Payload) (s : State) : (send code p s).2.tempOutside = s.tempOutside := by
  obtain ⟨_, _, _, _, _, _, h⟩ := send_frame code p s; rw [h]
@[simp] theorem send_tempCoil (code : Code) (p : Option Payload) (s : State) : (send code p s).2.tempCoil = s.tempCoil := by
  obtain ⟨_, _, _, _, _, _, h⟩ := send_frame code p s; rw [h]
@[simp] theorem send_fanRpm (code : Code) (p : Option Payload) (s : State) : (send code p s).2.fanRpm = s.fanRpm := by
  obtain ⟨_, _, _, _, _, _, h⟩ := send_frame code p s; rw [h]
@[simp] theorem send_compressorHz (code : Code) (p : Option Payload) (s : State) : (send code p s).2.compressorHz = s.compressorHz := by
  obtain ⟨_, _, _, _, _, _, h⟩ := send_frame code p s; rw [h]
@[simp] theorem send_swingVerticalAngle (code : Code) (p : Option Payload) (s : State) : (send code p s).2.swingVerticalAngle = s.swingVerticalAngle := by
  obtain ⟨_, _, _, _, _, _, h⟩ := send_frame code p s; rw [h]
@[simp] theorem send_diffCache (code : Code) (p : Option Payload) (s : State) : (send code p s).2.diffCache = s.diffCache := by
  obtain ⟨_, _, _, _, _, _, h⟩ := send_frame code p s; rw [h]
@[simp] theorem send_report (code : Code) (p : Option Payload) (s : State) : (send code p s).2.report = s.report := by
  obtain ⟨_, _, _, _, _, _, h⟩ := send_frame code p s; rw [h]
@[simp] theorem send_ret (code : Code) (p : Option Payload) (s : State) : (send code p s).2.ret = s.ret := by
  obtain ⟨_, _, _, _, _, _, h⟩ := send_frame code p s; rw [h]
@[simp] theorem send_inputs (code : Code) (p : Option Payload) (s : State) : (send code p s).2.inputs = s.inputs := by
  obtain ⟨_, _, _, _, _, _, h⟩ := send_frame code p s; rw [h]
@[simp] theorem send_cfg (code : Code) (p : Option Payload) (s : State) : (send code p s).2.cfg = s.cfg := by
  obtain ⟨_, _, _, _, _, _, h⟩ := send_frame code p s; rw [h]
@[simp] theorem send_freeCount (code : Code) (p : Option Payload) (s : State) : (send code p s).2.freeCount = s.freeCount := by
  obtain ⟨_, _, _, _, _, _, h⟩ := send_frame code p s; rw [h]

/-- Arm 4 writes what `send` writes, the pool, the cursor and the refresh flag (41_scheduler.md R181). -/
theorem startScan_frame (s : State) :
    ∃ v0 v1 v2 v3 v4 v5 v6 v7 v8, (startScan s) = { s with
      ftState := v0, ftBuf := v1, ftTLast := v2, rx := v3, tx := v4, pool := v5, cursor := v6, txCmd := v7,
      refreshRequested := v8 } := by
  unfold startScan
  split
  · exact ⟨_, _, _, _, _, _, _, _, _, rfl⟩
  · rename_i q _ _
    obtain ⟨_, _, _, _, _, _, h⟩ := send_frame q none (scanStarted s)
    unfold sendIgnored; rw [h]; exact ⟨_, _, _, _, _, _, _, _, _, rfl⟩

@[simp] theorem startScan_ftCool (s : State) : (startScan s).ftCool = s.ftCool := by
  obtain ⟨_, _, _, _, _, _, _, _, _, h⟩ := startScan_frame s; rw [h]
@[simp] theorem startScan_now (s : State) : (startScan s).now = s.now := by
  obtain ⟨_, _, _, _, _, _, _, _, _, h⟩ := startScan_frame s; rw [h]
@[simp] theorem startScan_activateClimate (s : State) : (startScan s).activateClimate = s.activateClimate := by
  obtain ⟨_, _, _, _, _, _, _, _, _, h⟩ := startScan_frame s; rw [h]
@[simp] theorem startScan_activateSwingMode (s : State) : (startScan s).activateSwingMode = s.activateSwingMode := by
  obtain ⟨_, _, _, _, _, _, _, _, _, h⟩ := startScan_frame s; rw [h]
@[simp] theorem startScan_supportRH (s : State) : (startScan s).supportRH = s.supportRH := by
  obtain ⟨_, _, _, _, _, _, _, _, _, h⟩ := startScan_frame s; rw [h]
@[simp] theorem startScan_supportRa (s : State) : (startScan s).supportRa = s.supportRa := by
  obtain ⟨_, _, _, _, _, _, _, _, _, h⟩ := startScan_frame s; rw [h]
@[simp] theorem startScan_supportRG (s : State) : (startScan s).supportRG = s.supportRG := by
  obtain ⟨_, _, _, _, _, _, _, _, _, h⟩ := startScan_frame s; rw [h]
@[simp] theorem startScan_ready (s : State) : (startScan s).ready = s.ready := by
  obtain ⟨_, _, _, _, _, _, _, _, _, h⟩ := startScan_frame s; rw [h]
@[simp] theorem startScan_diagMode (s : State) : (startScan s).diagMode = s.diagMode := by
  obtain ⟨_, _, _, _, _, _, _, _, _, h⟩ := startScan_frame s; rw [h]
@[simp] theorem startScan_active (s : State) : (startScan s).active = s.active := by
  obtain ⟨_, _, _, _, _, _, _, _, _, h⟩ := startScan_frame s; rw [h]
@[simp] theorem startScan_pending (s : State) : (startScan s).pending = s.pending := by
  obtain ⟨_, _, _, _, _, _, _, _, _, h⟩ := startScan_frame s; rw [h]
@[simp] theorem startScan_tempInside (s : State) : (startScan s).tempInside = s.tempInside := by
  obtain ⟨_, _, _, _, _, _, _, _, _, h⟩ := startScan_frame s; rw [h]
@[simp] theorem startScan_tempOutside (s : State) : (startScan s).tempOutside = s.tempOutside := by
  obtain ⟨_, _, _, _, _, _, _, _, _, h⟩ := startScan_frame s; rw [h]
@[simp] theorem startScan_tempCoil (s : State) : (startScan s).tempCoil = s.tempCoil := by
  obtain ⟨_, _, _, _, _, _, _, _, _, h⟩ := startScan_frame s; rw [h]
@[simp] theorem startScan_fanRpm (s : State) : (startScan s).fanRpm = s.fanRpm := by
  obtain ⟨_, _, _, _, _, _, _, _, _, h⟩ := startScan_frame s; rw [h]
@[simp] theorem startScan_compressorHz (s : State) : (startScan s).compressorHz = s.compressorHz := by
  obtain ⟨_, _, _, _, _, _, _, _, _, h⟩ := startScan_frame s; rw [h]
@[simp] theorem startScan_swingVerticalAngle (s : State) : (startScan s).swingVerticalAngle = s.swingVerticalAngle := by
  obtain ⟨_, _, _, _, _, _, _, _, _, h⟩ := startScan_frame s; rw [h]
@[simp] theorem startScan_diffCache (s : State) : (startScan s).diffCache = s.diffCache := by
  obtain ⟨_, _, _, _, _, _, _, _, _, h⟩ := startScan_frame s; rw [h]
@[simp] theorem startScan_report (s : State) : (startScan s).report = s.report := by
  obtain ⟨_, _, _, _, _, _, _, _, _, h⟩ := startScan_frame s; rw [h]
@[simp] theorem startScan_ret (s : State) : (startScan s).ret = s.ret := by
  obtain ⟨_, _, _, _, _, _, _, _, _, h⟩ := startScan_frame s; rw [h]
@[simp] theorem startScan_inputs (s : State) : (startScan s).inputs = s.inputs := by
  obtain ⟨_, _, _, _, _, _, _, _, _, h⟩ := startScan_frame s; rw [h]
@[simp] theorem startScan_cfg (s : State) : (startScan s).cfg = s.cfg := by
  obtain ⟨_, _, _, _, _, _, _, _, _, h⟩ := startScan_frame s; rw [h]
@[simp] theorem startScan_freeCount (s : State) : (startScan s).freeCount = s.freeCount := by
  obtain ⟨_, _, _, _, _, _, _, _, _, h⟩ := startScan_frame s; rw [h]

/-- `tx_next` writes what its arms write (41_scheduler.md R184). -/
theorem txNext_frame (s : State) :
    ∃ v0 v1 v2 v3 v4 v5 v6 v7 v8, (txNext s) = { s with
      ftState := v0, ftBuf := v1, ftTLast := v2, rx := v3, tx := v4, pool := v5, cursor := v6, txCmd := v7,
      refreshRequested := v8 } := by
  unfold txNext
  cases txArm s <;> simp only [runArm, sendClimate, sendSwing, continueScan, sendIgnored]
  case startScan => exact startScan_frame s
  case nothing => exact ⟨_, _, _, _, _, _, _, _, _, rfl⟩
  all_goals
    obtain ⟨_, _, _, _, _, _, h⟩ := send_frame _ _ s
    rw [h]; exact ⟨_, _, _, _, _, _, _, _, _, rfl⟩

@[simp] theorem txNext_ftCool (s : State) : (txNext s).ftCool = s.ftCool := by
  obtain ⟨_, _, _, _, _, _, _, _, _, h⟩ := txNext_frame s; rw [h]
@[simp] theorem txNext_now (s : State) : (txNext s).now = s.now := by
  obtain ⟨_, _, _, _, _, _, _, _, _, h⟩ := txNext_frame s; rw [h]
@[simp] theorem txNext_activateClimate (s : State) : (txNext s).activateClimate = s.activateClimate := by
  obtain ⟨_, _, _, _, _, _, _, _, _, h⟩ := txNext_frame s; rw [h]
@[simp] theorem txNext_activateSwingMode (s : State) : (txNext s).activateSwingMode = s.activateSwingMode := by
  obtain ⟨_, _, _, _, _, _, _, _, _, h⟩ := txNext_frame s; rw [h]
@[simp] theorem txNext_supportRH (s : State) : (txNext s).supportRH = s.supportRH := by
  obtain ⟨_, _, _, _, _, _, _, _, _, h⟩ := txNext_frame s; rw [h]
@[simp] theorem txNext_supportRa (s : State) : (txNext s).supportRa = s.supportRa := by
  obtain ⟨_, _, _, _, _, _, _, _, _, h⟩ := txNext_frame s; rw [h]
@[simp] theorem txNext_supportRG (s : State) : (txNext s).supportRG = s.supportRG := by
  obtain ⟨_, _, _, _, _, _, _, _, _, h⟩ := txNext_frame s; rw [h]
@[simp] theorem txNext_ready (s : State) : (txNext s).ready = s.ready := by
  obtain ⟨_, _, _, _, _, _, _, _, _, h⟩ := txNext_frame s; rw [h]
@[simp] theorem txNext_diagMode (s : State) : (txNext s).diagMode = s.diagMode := by
  obtain ⟨_, _, _, _, _, _, _, _, _, h⟩ := txNext_frame s; rw [h]
@[simp] theorem txNext_active (s : State) : (txNext s).active = s.active := by
  obtain ⟨_, _, _, _, _, _, _, _, _, h⟩ := txNext_frame s; rw [h]
@[simp] theorem txNext_pending (s : State) : (txNext s).pending = s.pending := by
  obtain ⟨_, _, _, _, _, _, _, _, _, h⟩ := txNext_frame s; rw [h]
@[simp] theorem txNext_tempInside (s : State) : (txNext s).tempInside = s.tempInside := by
  obtain ⟨_, _, _, _, _, _, _, _, _, h⟩ := txNext_frame s; rw [h]
@[simp] theorem txNext_tempOutside (s : State) : (txNext s).tempOutside = s.tempOutside := by
  obtain ⟨_, _, _, _, _, _, _, _, _, h⟩ := txNext_frame s; rw [h]
@[simp] theorem txNext_tempCoil (s : State) : (txNext s).tempCoil = s.tempCoil := by
  obtain ⟨_, _, _, _, _, _, _, _, _, h⟩ := txNext_frame s; rw [h]
@[simp] theorem txNext_fanRpm (s : State) : (txNext s).fanRpm = s.fanRpm := by
  obtain ⟨_, _, _, _, _, _, _, _, _, h⟩ := txNext_frame s; rw [h]
@[simp] theorem txNext_compressorHz (s : State) : (txNext s).compressorHz = s.compressorHz := by
  obtain ⟨_, _, _, _, _, _, _, _, _, h⟩ := txNext_frame s; rw [h]
@[simp] theorem txNext_swingVerticalAngle (s : State) : (txNext s).swingVerticalAngle = s.swingVerticalAngle := by
  obtain ⟨_, _, _, _, _, _, _, _, _, h⟩ := txNext_frame s; rw [h]
@[simp] theorem txNext_diffCache (s : State) : (txNext s).diffCache = s.diffCache := by
  obtain ⟨_, _, _, _, _, _, _, _, _, h⟩ := txNext_frame s; rw [h]
@[simp] theorem txNext_report (s : State) : (txNext s).report = s.report := by
  obtain ⟨_, _, _, _, _, _, _, _, _, h⟩ := txNext_frame s; rw [h]
@[simp] theorem txNext_ret (s : State) : (txNext s).ret = s.ret := by
  obtain ⟨_, _, _, _, _, _, _, _, _, h⟩ := txNext_frame s; rw [h]
@[simp] theorem txNext_inputs (s : State) : (txNext s).inputs = s.inputs := by
  obtain ⟨_, _, _, _, _, _, _, _, _, h⟩ := txNext_frame s; rw [h]
@[simp] theorem txNext_cfg (s : State) : (txNext s).cfg = s.cfg := by
  obtain ⟨_, _, _, _, _, _, _, _, _, h⟩ := txNext_frame s; rw [h]
@[simp] theorem txNext_freeCount (s : State) : (txNext s).freeCount = s.freeCount := by
  obtain ⟨_, _, _, _, _, _, _, _, _, h⟩ := txNext_frame s; rw [h]

/-- A handler writes climate, sensor and flag fields (42_decoder.md R214 to R227). -/
theorem runFamily_frame (f : Family) (p : List Byte) (s : State) :
    ∃ v0 v1 v2 v3 v4 v5 v6 v7 v8 v9 v10 v11 v12 v13, (runFamily f p s) = { s with
      activateClimate := v0, activateSwingMode := v1, refreshRequested := v2, supportRH := v3, supportRa := v4,
      supportRG := v5, ready := v6, active := v7, tempInside := v8, tempOutside := v9, tempCoil := v10,
      fanRpm := v11, compressorHz := v12, swingVerticalAngle := v13 } := by
  cases f
  case fanMode => simp only [runFamily, handleFanMode]; split <;> exact ⟨_, _, _, _, _, _, _, _, _, _, _, _, _, _, rfl⟩
  all_goals exact ⟨_, _, _, _, _, _, _, _, _, _, _, _, _, _, rfl⟩

@[simp] theorem runFamily_ftState (f : Family) (p : List Byte) (s : State) : (runFamily f p s).ftState = s.ftState := by
  obtain ⟨_, _, _, _, _, _, _, _, _, _, _, _, _, _, h⟩ := runFamily_frame f p s; rw [h]
@[simp] theorem runFamily_ftBuf (f : Family) (p : List Byte) (s : State) : (runFamily f p s).ftBuf = s.ftBuf := by
  obtain ⟨_, _, _, _, _, _, _, _, _, _, _, _, _, _, h⟩ := runFamily_frame f p s; rw [h]
@[simp] theorem runFamily_ftTLast (f : Family) (p : List Byte) (s : State) : (runFamily f p s).ftTLast = s.ftTLast := by
  obtain ⟨_, _, _, _, _, _, _, _, _, _, _, _, _, _, h⟩ := runFamily_frame f p s; rw [h]
@[simp] theorem runFamily_ftCool (f : Family) (p : List Byte) (s : State) : (runFamily f p s).ftCool = s.ftCool := by
  obtain ⟨_, _, _, _, _, _, _, _, _, _, _, _, _, _, h⟩ := runFamily_frame f p s; rw [h]
@[simp] theorem runFamily_rx (f : Family) (p : List Byte) (s : State) : (runFamily f p s).rx = s.rx := by
  obtain ⟨_, _, _, _, _, _, _, _, _, _, _, _, _, _, h⟩ := runFamily_frame f p s; rw [h]
@[simp] theorem runFamily_tx (f : Family) (p : List Byte) (s : State) : (runFamily f p s).tx = s.tx := by
  obtain ⟨_, _, _, _, _, _, _, _, _, _, _, _, _, _, h⟩ := runFamily_frame f p s; rw [h]
@[simp] theorem runFamily_now (f : Family) (p : List Byte) (s : State) : (runFamily f p s).now = s.now := by
  obtain ⟨_, _, _, _, _, _, _, _, _, _, _, _, _, _, h⟩ := runFamily_frame f p s; rw [h]
@[simp] theorem runFamily_pool (f : Family) (p : List Byte) (s : State) : (runFamily f p s).pool = s.pool := by
  obtain ⟨_, _, _, _, _, _, _, _, _, _, _, _, _, _, h⟩ := runFamily_frame f p s; rw [h]
@[simp] theorem runFamily_cursor (f : Family) (p : List Byte) (s : State) : (runFamily f p s).cursor = s.cursor := by
  obtain ⟨_, _, _, _, _, _, _, _, _, _, _, _, _, _, h⟩ := runFamily_frame f p s; rw [h]
@[simp] theorem runFamily_txCmd (f : Family) (p : List Byte) (s : State) : (runFamily f p s).txCmd = s.txCmd := by
  obtain ⟨_, _, _, _, _, _, _, _, _, _, _, _, _, _, h⟩ := runFamily_frame f p s; rw [h]
@[simp] theorem runFamily_diagMode (f : Family) (p : List Byte) (s : State) : (runFamily f p s).diagMode = s.diagMode := by
  obtain ⟨_, _, _, _, _, _, _, _, _, _, _, _, _, _, h⟩ := runFamily_frame f p s; rw [h]
@[simp] theorem runFamily_pending (f : Family) (p : List Byte) (s : State) : (runFamily f p s).pending = s.pending := by
  obtain ⟨_, _, _, _, _, _, _, _, _, _, _, _, _, _, h⟩ := runFamily_frame f p s; rw [h]
@[simp] theorem runFamily_diffCache (f : Family) (p : List Byte) (s : State) : (runFamily f p s).diffCache = s.diffCache := by
  obtain ⟨_, _, _, _, _, _, _, _, _, _, _, _, _, _, h⟩ := runFamily_frame f p s; rw [h]
@[simp] theorem runFamily_report (f : Family) (p : List Byte) (s : State) : (runFamily f p s).report = s.report := by
  obtain ⟨_, _, _, _, _, _, _, _, _, _, _, _, _, _, h⟩ := runFamily_frame f p s; rw [h]
@[simp] theorem runFamily_ret (f : Family) (p : List Byte) (s : State) : (runFamily f p s).ret = s.ret := by
  obtain ⟨_, _, _, _, _, _, _, _, _, _, _, _, _, _, h⟩ := runFamily_frame f p s; rw [h]
@[simp] theorem runFamily_inputs (f : Family) (p : List Byte) (s : State) : (runFamily f p s).inputs = s.inputs := by
  obtain ⟨_, _, _, _, _, _, _, _, _, _, _, _, _, _, h⟩ := runFamily_frame f p s; rw [h]
@[simp] theorem runFamily_cfg (f : Family) (p : List Byte) (s : State) : (runFamily f p s).cfg = s.cfg := by
  obtain ⟨_, _, _, _, _, _, _, _, _, _, _, _, _, _, h⟩ := runFamily_frame f p s; rw [h]
@[simp] theorem runFamily_freeCount (f : Family) (p : List Byte) (s : State) : (runFamily f p s).freeCount = s.freeCount := by
  obtain ⟨_, _, _, _, _, _, _, _, _, _, _, _, _, _, h⟩ := runFamily_frame f p s; rw [h]

/-- The unknown-code handler writes the diff cache and the report port (42_decoder.md R228). -/
theorem handleUnknown_frame (code : Code) (p : List Byte) (s : State) :
    ∃ v0 v1, (handleUnknown code p s) = { s with
      diffCache := v0, report := v1 } := by
  unfold handleUnknown noteChange
  split
  · split <;> exact ⟨_, _, rfl⟩
  · exact ⟨_, _, rfl⟩

@[simp] theorem handleUnknown_ftState (code : Code) (p : List Byte) (s : State) : (handleUnknown code p s).ftState = s.ftState := by
  obtain ⟨_, _, h⟩ := handleUnknown_frame code p s; rw [h]
@[simp] theorem handleUnknown_ftBuf (code : Code) (p : List Byte) (s : State) : (handleUnknown code p s).ftBuf = s.ftBuf := by
  obtain ⟨_, _, h⟩ := handleUnknown_frame code p s; rw [h]
@[simp] theorem handleUnknown_ftTLast (code : Code) (p : List Byte) (s : State) : (handleUnknown code p s).ftTLast = s.ftTLast := by
  obtain ⟨_, _, h⟩ := handleUnknown_frame code p s; rw [h]
@[simp] theorem handleUnknown_ftCool (code : Code) (p : List Byte) (s : State) : (handleUnknown code p s).ftCool = s.ftCool := by
  obtain ⟨_, _, h⟩ := handleUnknown_frame code p s; rw [h]
@[simp] theorem handleUnknown_rx (code : Code) (p : List Byte) (s : State) : (handleUnknown code p s).rx = s.rx := by
  obtain ⟨_, _, h⟩ := handleUnknown_frame code p s; rw [h]
@[simp] theorem handleUnknown_tx (code : Code) (p : List Byte) (s : State) : (handleUnknown code p s).tx = s.tx := by
  obtain ⟨_, _, h⟩ := handleUnknown_frame code p s; rw [h]
@[simp] theorem handleUnknown_now (code : Code) (p : List Byte) (s : State) : (handleUnknown code p s).now = s.now := by
  obtain ⟨_, _, h⟩ := handleUnknown_frame code p s; rw [h]
@[simp] theorem handleUnknown_pool (code : Code) (p : List Byte) (s : State) : (handleUnknown code p s).pool = s.pool := by
  obtain ⟨_, _, h⟩ := handleUnknown_frame code p s; rw [h]
@[simp] theorem handleUnknown_cursor (code : Code) (p : List Byte) (s : State) : (handleUnknown code p s).cursor = s.cursor := by
  obtain ⟨_, _, h⟩ := handleUnknown_frame code p s; rw [h]
@[simp] theorem handleUnknown_txCmd (code : Code) (p : List Byte) (s : State) : (handleUnknown code p s).txCmd = s.txCmd := by
  obtain ⟨_, _, h⟩ := handleUnknown_frame code p s; rw [h]
@[simp] theorem handleUnknown_activateClimate (code : Code) (p : List Byte) (s : State) : (handleUnknown code p s).activateClimate = s.activateClimate := by
  obtain ⟨_, _, h⟩ := handleUnknown_frame code p s; rw [h]
@[simp] theorem handleUnknown_activateSwingMode (code : Code) (p : List Byte) (s : State) : (handleUnknown code p s).activateSwingMode = s.activateSwingMode := by
  obtain ⟨_, _, h⟩ := handleUnknown_frame code p s; rw [h]
@[simp] theorem handleUnknown_refreshRequested (code : Code) (p : List Byte) (s : State) : (handleUnknown code p s).refreshRequested = s.refreshRequested := by
  obtain ⟨_, _, h⟩ := handleUnknown_frame code p s; rw [h]
@[simp] theorem handleUnknown_supportRH (code : Code) (p : List Byte) (s : State) : (handleUnknown code p s).supportRH = s.supportRH := by
  obtain ⟨_, _, h⟩ := handleUnknown_frame code p s; rw [h]
@[simp] theorem handleUnknown_supportRa (code : Code) (p : List Byte) (s : State) : (handleUnknown code p s).supportRa = s.supportRa := by
  obtain ⟨_, _, h⟩ := handleUnknown_frame code p s; rw [h]
@[simp] theorem handleUnknown_supportRG (code : Code) (p : List Byte) (s : State) : (handleUnknown code p s).supportRG = s.supportRG := by
  obtain ⟨_, _, h⟩ := handleUnknown_frame code p s; rw [h]
@[simp] theorem handleUnknown_ready (code : Code) (p : List Byte) (s : State) : (handleUnknown code p s).ready = s.ready := by
  obtain ⟨_, _, h⟩ := handleUnknown_frame code p s; rw [h]
@[simp] theorem handleUnknown_diagMode (code : Code) (p : List Byte) (s : State) : (handleUnknown code p s).diagMode = s.diagMode := by
  obtain ⟨_, _, h⟩ := handleUnknown_frame code p s; rw [h]
@[simp] theorem handleUnknown_active (code : Code) (p : List Byte) (s : State) : (handleUnknown code p s).active = s.active := by
  obtain ⟨_, _, h⟩ := handleUnknown_frame code p s; rw [h]
@[simp] theorem handleUnknown_pending (code : Code) (p : List Byte) (s : State) : (handleUnknown code p s).pending = s.pending := by
  obtain ⟨_, _, h⟩ := handleUnknown_frame code p s; rw [h]
@[simp] theorem handleUnknown_tempInside (code : Code) (p : List Byte) (s : State) : (handleUnknown code p s).tempInside = s.tempInside := by
  obtain ⟨_, _, h⟩ := handleUnknown_frame code p s; rw [h]
@[simp] theorem handleUnknown_tempOutside (code : Code) (p : List Byte) (s : State) : (handleUnknown code p s).tempOutside = s.tempOutside := by
  obtain ⟨_, _, h⟩ := handleUnknown_frame code p s; rw [h]
@[simp] theorem handleUnknown_tempCoil (code : Code) (p : List Byte) (s : State) : (handleUnknown code p s).tempCoil = s.tempCoil := by
  obtain ⟨_, _, h⟩ := handleUnknown_frame code p s; rw [h]
@[simp] theorem handleUnknown_fanRpm (code : Code) (p : List Byte) (s : State) : (handleUnknown code p s).fanRpm = s.fanRpm := by
  obtain ⟨_, _, h⟩ := handleUnknown_frame code p s; rw [h]
@[simp] theorem handleUnknown_compressorHz (code : Code) (p : List Byte) (s : State) : (handleUnknown code p s).compressorHz = s.compressorHz := by
  obtain ⟨_, _, h⟩ := handleUnknown_frame code p s; rw [h]
@[simp] theorem handleUnknown_swingVerticalAngle (code : Code) (p : List Byte) (s : State) : (handleUnknown code p s).swingVerticalAngle = s.swingVerticalAngle := by
  obtain ⟨_, _, h⟩ := handleUnknown_frame code p s; rw [h]
@[simp] theorem handleUnknown_ret (code : Code) (p : List Byte) (s : State) : (handleUnknown code p s).ret = s.ret := by
  obtain ⟨_, _, h⟩ := handleUnknown_frame code p s; rw [h]
@[simp] theorem handleUnknown_inputs (code : Code) (p : List Byte) (s : State) : (handleUnknown code p s).inputs = s.inputs := by
  obtain ⟨_, _, h⟩ := handleUnknown_frame code p s; rw [h]
@[simp] theorem handleUnknown_cfg (code : Code) (p : List Byte) (s : State) : (handleUnknown code p s).cfg = s.cfg := by
  obtain ⟨_, _, h⟩ := handleUnknown_frame code p s; rw [h]
@[simp] theorem handleUnknown_freeCount (code : Code) (p : List Byte) (s : State) : (handleUnknown code p s).freeCount = s.freeCount := by
  obtain ⟨_, _, h⟩ := handleUnknown_frame code p s; rw [h]

/-- `dispatch` writes what the handlers write (42_decoder.md R213). -/
theorem dispatchRsp_frame (code : Code) (p : List Byte) (s : State) :
    ∃ v0 v1 v2 v3 v4 v5 v6 v7 v8 v9 v10 v11 v12 v13 v14 v15, (dispatchRsp code p s) = { s with
      activateClimate := v0, activateSwingMode := v1, refreshRequested := v2, supportRH := v3, supportRa := v4,
      supportRG := v5, ready := v6, active := v7, tempInside := v8, tempOutside := v9, tempCoil := v10,
      fanRpm := v11, compressorHz := v12, swingVerticalAngle := v13, diffCache := v14, report := v15 } := by
  unfold dispatchRsp
  split
  · obtain ⟨_, _, _, _, _, _, _, _, _, _, _, _, _, _, h⟩ := runFamily_frame _ p s
    rw [h]; exact ⟨_, _, _, _, _, _, _, _, _, _, _, _, _, _, _, _, rfl⟩
  · exact ⟨_, _, _, _, _, _, _, _, _, _, _, _, _, _, _, _, rfl⟩
  · obtain ⟨_, _, h⟩ := handleUnknown_frame code p s
    rw [h]; exact ⟨_, _, _, _, _, _, _, _, _, _, _, _, _, _, _, _, rfl⟩

@[simp] theorem dispatchRsp_ftState (code : Code) (p : List Byte) (s : State) : (dispatchRsp code p s).ftState = s.ftState := by
  obtain ⟨_, _, _, _, _, _, _, _, _, _, _, _, _, _, _, _, h⟩ := dispatchRsp_frame code p s; rw [h]
@[simp] theorem dispatchRsp_ftBuf (code : Code) (p : List Byte) (s : State) : (dispatchRsp code p s).ftBuf = s.ftBuf := by
  obtain ⟨_, _, _, _, _, _, _, _, _, _, _, _, _, _, _, _, h⟩ := dispatchRsp_frame code p s; rw [h]
@[simp] theorem dispatchRsp_ftTLast (code : Code) (p : List Byte) (s : State) : (dispatchRsp code p s).ftTLast = s.ftTLast := by
  obtain ⟨_, _, _, _, _, _, _, _, _, _, _, _, _, _, _, _, h⟩ := dispatchRsp_frame code p s; rw [h]
@[simp] theorem dispatchRsp_ftCool (code : Code) (p : List Byte) (s : State) : (dispatchRsp code p s).ftCool = s.ftCool := by
  obtain ⟨_, _, _, _, _, _, _, _, _, _, _, _, _, _, _, _, h⟩ := dispatchRsp_frame code p s; rw [h]
@[simp] theorem dispatchRsp_rx (code : Code) (p : List Byte) (s : State) : (dispatchRsp code p s).rx = s.rx := by
  obtain ⟨_, _, _, _, _, _, _, _, _, _, _, _, _, _, _, _, h⟩ := dispatchRsp_frame code p s; rw [h]
@[simp] theorem dispatchRsp_tx (code : Code) (p : List Byte) (s : State) : (dispatchRsp code p s).tx = s.tx := by
  obtain ⟨_, _, _, _, _, _, _, _, _, _, _, _, _, _, _, _, h⟩ := dispatchRsp_frame code p s; rw [h]
@[simp] theorem dispatchRsp_now (code : Code) (p : List Byte) (s : State) : (dispatchRsp code p s).now = s.now := by
  obtain ⟨_, _, _, _, _, _, _, _, _, _, _, _, _, _, _, _, h⟩ := dispatchRsp_frame code p s; rw [h]
@[simp] theorem dispatchRsp_pool (code : Code) (p : List Byte) (s : State) : (dispatchRsp code p s).pool = s.pool := by
  obtain ⟨_, _, _, _, _, _, _, _, _, _, _, _, _, _, _, _, h⟩ := dispatchRsp_frame code p s; rw [h]
@[simp] theorem dispatchRsp_cursor (code : Code) (p : List Byte) (s : State) : (dispatchRsp code p s).cursor = s.cursor := by
  obtain ⟨_, _, _, _, _, _, _, _, _, _, _, _, _, _, _, _, h⟩ := dispatchRsp_frame code p s; rw [h]
@[simp] theorem dispatchRsp_txCmd (code : Code) (p : List Byte) (s : State) : (dispatchRsp code p s).txCmd = s.txCmd := by
  obtain ⟨_, _, _, _, _, _, _, _, _, _, _, _, _, _, _, _, h⟩ := dispatchRsp_frame code p s; rw [h]
@[simp] theorem dispatchRsp_diagMode (code : Code) (p : List Byte) (s : State) : (dispatchRsp code p s).diagMode = s.diagMode := by
  obtain ⟨_, _, _, _, _, _, _, _, _, _, _, _, _, _, _, _, h⟩ := dispatchRsp_frame code p s; rw [h]
@[simp] theorem dispatchRsp_pending (code : Code) (p : List Byte) (s : State) : (dispatchRsp code p s).pending = s.pending := by
  obtain ⟨_, _, _, _, _, _, _, _, _, _, _, _, _, _, _, _, h⟩ := dispatchRsp_frame code p s; rw [h]
@[simp] theorem dispatchRsp_ret (code : Code) (p : List Byte) (s : State) : (dispatchRsp code p s).ret = s.ret := by
  obtain ⟨_, _, _, _, _, _, _, _, _, _, _, _, _, _, _, _, h⟩ := dispatchRsp_frame code p s; rw [h]
@[simp] theorem dispatchRsp_inputs (code : Code) (p : List Byte) (s : State) : (dispatchRsp code p s).inputs = s.inputs := by
  obtain ⟨_, _, _, _, _, _, _, _, _, _, _, _, _, _, _, _, h⟩ := dispatchRsp_frame code p s; rw [h]
@[simp] theorem dispatchRsp_cfg (code : Code) (p : List Byte) (s : State) : (dispatchRsp code p s).cfg = s.cfg := by
  obtain ⟨_, _, _, _, _, _, _, _, _, _, _, _, _, _, _, _, h⟩ := dispatchRsp_frame code p s; rw [h]
@[simp] theorem dispatchRsp_freeCount (code : Code) (p : List Byte) (s : State) : (dispatchRsp code p s).freeCount = s.freeCount := by
  obtain ⟨_, _, _, _, _, _, _, _, _, _, _, _, _, _, _, _, h⟩ := dispatchRsp_frame code p s; rw [h]

/-- `parse_ack` writes what the handlers write, and the cursor (42_decoder.md R210, R211). -/
theorem parseAck_frame (s : State) :
    ∃ v0 v1 v2 v3 v4 v5 v6 v7 v8 v9 v10 v11 v12 v13 v14 v15 v16, (parseAck s) = { s with
      cursor := v0, activateClimate := v1, activateSwingMode := v2, refreshRequested := v3, supportRH := v4,
      supportRa := v5, supportRG := v6, ready := v7, active := v8, tempInside := v9, tempOutside := v10,
      tempCoil := v11, fanRpm := v12, compressorHz := v13, swingVerticalAngle := v14, diffCache := v15,
      report := v16 } := by
  unfold parseAck parseAckBare parseAckSplit
  split
  · obtain ⟨_, _, _, _, _, _, _, _, _, _, _, _, _, _, _, _, h⟩ := dispatchRsp_frame s.txCmd [] s
    rw [h]; exact ⟨_, _, _, _, _, _, _, _, _, _, _, _, _, _, _, _, _, rfl⟩
  · obtain ⟨_, _, _, _, _, _, _, _, _, _, _, _, _, _, _, _, h⟩ := dispatchRsp_frame (s.ftBuf.take (codeLength s)) (s.ftBuf.drop (codeLength s)) (advanceCursor s)
    rw [h, advanceCursor_eq]; exact ⟨_, _, _, _, _, _, _, _, _, _, _, _, _, _, _, _, _, rfl⟩

@[simp] theorem parseAck_ftState (s : State) : (parseAck s).ftState = s.ftState := by
  obtain ⟨_, _, _, _, _, _, _, _, _, _, _, _, _, _, _, _, _, h⟩ := parseAck_frame s; rw [h]
@[simp] theorem parseAck_ftBuf (s : State) : (parseAck s).ftBuf = s.ftBuf := by
  obtain ⟨_, _, _, _, _, _, _, _, _, _, _, _, _, _, _, _, _, h⟩ := parseAck_frame s; rw [h]
@[simp] theorem parseAck_ftTLast (s : State) : (parseAck s).ftTLast = s.ftTLast := by
  obtain ⟨_, _, _, _, _, _, _, _, _, _, _, _, _, _, _, _, _, h⟩ := parseAck_frame s; rw [h]
@[simp] theorem parseAck_ftCool (s : State) : (parseAck s).ftCool = s.ftCool := by
  obtain ⟨_, _, _, _, _, _, _, _, _, _, _, _, _, _, _, _, _, h⟩ := parseAck_frame s; rw [h]
@[simp] theorem parseAck_rx (s : State) : (parseAck s).rx = s.rx := by
  obtain ⟨_, _, _, _, _, _, _, _, _, _, _, _, _, _, _, _, _, h⟩ := parseAck_frame s; rw [h]
@[simp] theorem parseAck_tx (s : State) : (parseAck s).tx = s.tx := by
  obtain ⟨_, _, _, _, _, _, _, _, _, _, _, _, _, _, _, _, _, h⟩ := parseAck_frame s; rw [h]
@[simp] theorem parseAck_now (s : State) : (parseAck s).now = s.now := by
  obtain ⟨_, _, _, _, _, _, _, _, _, _, _, _, _, _, _, _, _, h⟩ := parseAck_frame s; rw [h]
@[simp] theorem parseAck_pool (s : State) : (parseAck s).pool = s.pool := by
  obtain ⟨_, _, _, _, _, _, _, _, _, _, _, _, _, _, _, _, _, h⟩ := parseAck_frame s; rw [h]
@[simp] theorem parseAck_txCmd (s : State) : (parseAck s).txCmd = s.txCmd := by
  obtain ⟨_, _, _, _, _, _, _, _, _, _, _, _, _, _, _, _, _, h⟩ := parseAck_frame s; rw [h]
@[simp] theorem parseAck_diagMode (s : State) : (parseAck s).diagMode = s.diagMode := by
  obtain ⟨_, _, _, _, _, _, _, _, _, _, _, _, _, _, _, _, _, h⟩ := parseAck_frame s; rw [h]
@[simp] theorem parseAck_pending (s : State) : (parseAck s).pending = s.pending := by
  obtain ⟨_, _, _, _, _, _, _, _, _, _, _, _, _, _, _, _, _, h⟩ := parseAck_frame s; rw [h]
@[simp] theorem parseAck_ret (s : State) : (parseAck s).ret = s.ret := by
  obtain ⟨_, _, _, _, _, _, _, _, _, _, _, _, _, _, _, _, _, h⟩ := parseAck_frame s; rw [h]
@[simp] theorem parseAck_inputs (s : State) : (parseAck s).inputs = s.inputs := by
  obtain ⟨_, _, _, _, _, _, _, _, _, _, _, _, _, _, _, _, _, h⟩ := parseAck_frame s; rw [h]
@[simp] theorem parseAck_cfg (s : State) : (parseAck s).cfg = s.cfg := by
  obtain ⟨_, _, _, _, _, _, _, _, _, _, _, _, _, _, _, _, _, h⟩ := parseAck_frame s; rw [h]
@[simp] theorem parseAck_freeCount (s : State) : (parseAck s).freeCount = s.freeCount := by
  obtain ⟨_, _, _, _, _, _, _, _, _, _, _, _, _, _, _, _, _, h⟩ := parseAck_frame s; rw [h]

/-- `handle_nak` writes what `parse_ack` writes, and the pool (41_scheduler.md R185, R186). -/
theorem handleNak_frame (s : State) :
    ∃ v0 v1 v2 v3 v4 v5 v6 v7 v8 v9 v10 v11 v12 v13 v14 v15 v16 v17, (handleNak s) = { s with
      pool := v0, cursor := v1, activateClimate := v2, activateSwingMode := v3, refreshRequested := v4,
      supportRH := v5, supportRa := v6, supportRG := v7, ready := v8, active := v9, tempInside := v10,
      tempOutside := v11, tempCoil := v12, fanRpm := v13, compressorHz := v14, swingVerticalAngle := v15,
      diffCache := v16, report := v17 } := by
  unfold handleNak
  split
  · exact ⟨_, _, _, _, _, _, _, _, _, _, _, _, _, _, _, _, _, _, rfl⟩
  · obtain ⟨_, _, _, _, _, _, _, _, _, _, _, _, _, _, _, _, _, h⟩ := parseAck_frame s
    rw [h]; exact ⟨_, _, _, _, _, _, _, _, _, _, _, _, _, _, _, _, _, _, rfl⟩

@[simp] theorem handleNak_ftState (s : State) : (handleNak s).ftState = s.ftState := by
  obtain ⟨_, _, _, _, _, _, _, _, _, _, _, _, _, _, _, _, _, _, h⟩ := handleNak_frame s; rw [h]
@[simp] theorem handleNak_ftBuf (s : State) : (handleNak s).ftBuf = s.ftBuf := by
  obtain ⟨_, _, _, _, _, _, _, _, _, _, _, _, _, _, _, _, _, _, h⟩ := handleNak_frame s; rw [h]
@[simp] theorem handleNak_ftTLast (s : State) : (handleNak s).ftTLast = s.ftTLast := by
  obtain ⟨_, _, _, _, _, _, _, _, _, _, _, _, _, _, _, _, _, _, h⟩ := handleNak_frame s; rw [h]
@[simp] theorem handleNak_ftCool (s : State) : (handleNak s).ftCool = s.ftCool := by
  obtain ⟨_, _, _, _, _, _, _, _, _, _, _, _, _, _, _, _, _, _, h⟩ := handleNak_frame s; rw [h]
@[simp] theorem handleNak_rx (s : State) : (handleNak s).rx = s.rx := by
  obtain ⟨_, _, _, _, _, _, _, _, _, _, _, _, _, _, _, _, _, _, h⟩ := handleNak_frame s; rw [h]
@[simp] theorem handleNak_tx (s : State) : (handleNak s).tx = s.tx := by
  obtain ⟨_, _, _, _, _, _, _, _, _, _, _, _, _, _, _, _, _, _, h⟩ := handleNak_frame s; rw [h]
@[simp] theorem handleNak_now (s : State) : (handleNak s).now = s.now := by
  obtain ⟨_, _, _, _, _, _, _, _, _, _, _, _, _, _, _, _, _, _, h⟩ := handleNak_frame s; rw [h]
@[simp] theorem handleNak_txCmd (s : State) : (handleNak s).txCmd = s.txCmd := by
  obtain ⟨_, _, _, _, _, _, _, _, _, _, _, _, _, _, _, _, _, _, h⟩ := handleNak_frame s; rw [h]
@[simp] theorem handleNak_diagMode (s : State) : (handleNak s).diagMode = s.diagMode := by
  obtain ⟨_, _, _, _, _, _, _, _, _, _, _, _, _, _, _, _, _, _, h⟩ := handleNak_frame s; rw [h]
@[simp] theorem handleNak_pending (s : State) : (handleNak s).pending = s.pending := by
  obtain ⟨_, _, _, _, _, _, _, _, _, _, _, _, _, _, _, _, _, _, h⟩ := handleNak_frame s; rw [h]
@[simp] theorem handleNak_ret (s : State) : (handleNak s).ret = s.ret := by
  obtain ⟨_, _, _, _, _, _, _, _, _, _, _, _, _, _, _, _, _, _, h⟩ := handleNak_frame s; rw [h]
@[simp] theorem handleNak_inputs (s : State) : (handleNak s).inputs = s.inputs := by
  obtain ⟨_, _, _, _, _, _, _, _, _, _, _, _, _, _, _, _, _, _, h⟩ := handleNak_frame s; rw [h]
@[simp] theorem handleNak_cfg (s : State) : (handleNak s).cfg = s.cfg := by
  obtain ⟨_, _, _, _, _, _, _, _, _, _, _, _, _, _, _, _, _, _, h⟩ := handleNak_frame s; rw [h]
@[simp] theorem handleNak_freeCount (s : State) : (handleNak s).freeCount = s.freeCount := by
  obtain ⟨_, _, _, _, _, _, _, _, _, _, _, _, _, _, _, _, _, _, h⟩ := handleNak_frame s; rw [h]

/-- A reaction writes what `tx_next`, `parse_ack` and `handle_nak` write (41_scheduler.md R172). -/
theorem react_frame (r : Result) (s : State) :
    ∃ v0 v1 v2 v3 v4 v5 v6 v7 v8 v9 v10 v11 v12 v13 v14 v15 v16 v17 v18 v19 v20 v21 v22 v23, (react r s) = { s with
      ftState := v0, ftBuf := v1, ftTLast := v2, rx := v3, tx := v4, pool := v5, cursor := v6, txCmd := v7,
      activateClimate := v8, activateSwingMode := v9, refreshRequested := v10, supportRH := v11, supportRa := v12,
      supportRG := v13, ready := v14, active := v15, tempInside := v16, tempOutside := v17, tempCoil := v18,
      fanRpm := v19, compressorHz := v20, swingVerticalAngle := v21, diffCache := v22, report := v23 } := by
  cases r <;> simp only [react]
  case ack =>
    obtain ⟨_, _, _, _, _, _, _, _, _, _, _, _, _, _, _, _, _, h⟩ := parseAck_frame s
    rw [h]; exact ⟨_, _, _, _, _, _, _, _, _, _, _, _, _, _, _, _, _, _, _, _, _, _, _, _, rfl⟩
  case idle =>
    obtain ⟨_, _, _, _, _, _, _, _, _, h⟩ := txNext_frame s
    rw [h]; exact ⟨_, _, _, _, _, _, _, _, _, _, _, _, _, _, _, _, _, _, _, _, _, _, _, _, rfl⟩
  case nak =>
    obtain ⟨_, _, _, _, _, _, _, _, _, _, _, _, _, _, _, _, _, _, h⟩ := handleNak_frame s
    rw [h]; exact ⟨_, _, _, _, _, _, _, _, _, _, _, _, _, _, _, _, _, _, _, _, _, _, _, _, rfl⟩
  all_goals exact ⟨_, _, _, _, _, _, _, _, _, _, _, _, _, _, _, _, _, _, _, _, _, _, _, _, rfl⟩

@[simp] theorem react_ftCool (r : Result) (s : State) : (react r s).ftCool = s.ftCool := by
  obtain ⟨_, _, _, _, _, _, _, _, _, _, _, _, _, _, _, _, _, _, _, _, _, _, _, _, h⟩ := react_frame r s; rw [h]
@[simp] theorem react_now (r : Result) (s : State) : (react r s).now = s.now := by
  obtain ⟨_, _, _, _, _, _, _, _, _, _, _, _, _, _, _, _, _, _, _, _, _, _, _, _, h⟩ := react_frame r s; rw [h]
@[simp] theorem react_diagMode (r : Result) (s : State) : (react r s).diagMode = s.diagMode := by
  obtain ⟨_, _, _, _, _, _, _, _, _, _, _, _, _, _, _, _, _, _, _, _, _, _, _, _, h⟩ := react_frame r s; rw [h]
@[simp] theorem react_pending (r : Result) (s : State) : (react r s).pending = s.pending := by
  obtain ⟨_, _, _, _, _, _, _, _, _, _, _, _, _, _, _, _, _, _, _, _, _, _, _, _, h⟩ := react_frame r s; rw [h]
@[simp] theorem react_ret (r : Result) (s : State) : (react r s).ret = s.ret := by
  obtain ⟨_, _, _, _, _, _, _, _, _, _, _, _, _, _, _, _, _, _, _, _, _, _, _, _, h⟩ := react_frame r s; rw [h]
@[simp] theorem react_inputs (r : Result) (s : State) : (react r s).inputs = s.inputs := by
  obtain ⟨_, _, _, _, _, _, _, _, _, _, _, _, _, _, _, _, _, _, _, _, _, _, _, _, h⟩ := react_frame r s; rw [h]
@[simp] theorem react_cfg (r : Result) (s : State) : (react r s).cfg = s.cfg := by
  obtain ⟨_, _, _, _, _, _, _, _, _, _, _, _, _, _, _, _, _, _, _, _, _, _, _, _, h⟩ := react_frame r s; rw [h]
@[simp] theorem react_freeCount (r : Result) (s : State) : (react r s).freeCount = s.freeCount := by
  obtain ⟨_, _, _, _, _, _, _, _, _, _, _, _, _, _, _, _, _, _, _, _, _, _, _, _, h⟩ := react_frame r s; rw [h]

end Sys2Proof.Machine
end

