-- ==== Sys2Proof/Laws/Return.lean ====
section
/-! SUPPORT. No operation of the block reads the return register: each commutes with a write of it. -/

namespace Sys2Proof.Machine

@[simp] theorem putRet_putRet (v w : Ret) (s : State) : putRet v (putRet w s) = putRet v s := rfl

/-- The handler's row does not depend on the return register. -/
theorem rxRow_putRet (v : Ret) (b : Byte) (s : State) : rxRow (putRet v s) b = rxRow s b := rfl

theorem handleRx_putRet (v : Ret) (b : Byte) (s : State) :
    handleRx b (putRet v s) = ((handleRx b s).1, putRet v (handleRx b s).2) := by
  unfold handleRx
  rw [rxRow_putRet]
  cases rxRow s b
  case qetxData =>
    by_cases h : s.ftBuf.length < rxMax
    · simp [runRx, rxData, h, putRet, setBuf]
    · simp [runRx, rxData, h, putRet, rxError, complete]
  all_goals rfl

theorem rxLoop_putRet (v : Ret) (bs : List Byte) (s : State) :
    rxLoop bs (putRet v s) = ((rxLoop bs s).1, putRet v (rxLoop bs s).2) := by
  induction bs generalizing s with
  | nil => rfl
  | cons b rest ih =>
    have h : rxConsume rest (putRet v s) = putRet v (rxConsume rest s) := rfl
    simp only [rxLoop, h, handleRx_putRet]
    cases hr : handleRx b (rxConsume rest s) with
    | mk reply t => cases reply <;> simp [ih]

theorem serviceRow_putRet (v : Ret) (s : State) (n : Nat) : serviceRow (putRet v s) n = serviceRow s n := rfl

theorem service_putRet (v : Ret) (s : State) : service (putRet v s) = ((service s).1, putRet v (service s).2) := by
  unfold service
  rw [putRet_cfg, serviceRow_putRet]
  cases serviceRow s s.cfg.tResponse <;> dsimp only
  case cooldown =>
    have h : elapsed (putRet v s) (putRet v s).ftTLast (putRet v s).ftCool = elapsed s s.ftTLast s.ftCool := rfl
    simp only [serviceCooldown, h]
    split <;> rfl
  case receive => exact rxLoop_putRet v s.rx s
  all_goals rfl

theorem send_putRet (v : Ret) (code : Code) (p : Option Payload) (s : State) :
    send code p (putRet v s) = ((send code p s).1, putRet v (send code p s).2) := by
  have h : sendRow (putRet v s) code = sendRow s code := rfl
  unfold send sendFrame
  rw [h]
  cases sendRow s code <;> rfl

theorem startScan_putRet (v : Ret) (s : State) : startScan (putRet v s) = putRet v (startScan s) := by
  have h : scanStarted (putRet v s) = putRet v (scanStarted s) := rfl
  unfold startScan
  simp only [h, putRet_pool]
  split <;> simp [sendIgnored, send_putRet]

theorem txNext_putRet (v : Ret) (s : State) : txNext (putRet v s) = putRet v (txNext s) := by
  have h : txArm (putRet v s) = txArm s := rfl
  unfold txNext
  rw [h]
  cases txArm s <;> simp [runArm, sendClimate, sendSwing, continueScan, sendIgnored, send_putRet, startScan_putRet]

theorem runFamily_putRet (v : Ret) (f : Family) (p : List Byte) (s : State) :
    runFamily f p (putRet v s) = putRet v (runFamily f p s) := by
  cases f
  case fanMode =>
    simp only [runFamily, handleFanMode, putRet_cfg]
    split <;> rfl
  all_goals rfl

theorem handleUnknown_putRet (v : Ret) (code : Code) (p : List Byte) (s : State) :
    handleUnknown code p (putRet v s) = putRet v (handleUnknown code p s) := by
  have hd : diagnosing (putRet v s) = diagnosing s := rfl
  unfold handleUnknown
  rw [hd]
  by_cases h : diagnosing s = true
  · by_cases hc : cacheLookup code s.diffCache = some p
    · simp [h, noteChange, hc, putRet, emitEvent]
    · simp [h, noteChange, hc, putRet, emitEvent, setCache]
  · simp [h]

theorem dispatchRsp_putRet (v : Ret) (code : Code) (p : List Byte) (s : State) :
    dispatchRsp code p (putRet v s) = putRet v (dispatchRsp code p s) := by
  unfold dispatchRsp
  rw [putRet_cfg]
  split
  · exact runFamily_putRet ..
  · rfl
  · exact handleUnknown_putRet ..

theorem advanceCursor_putRet (v : Ret) (s : State) : advanceCursor (putRet v s) = putRet v (advanceCursor s) := by
  simp only [advanceCursor_eq]; rfl

theorem parseAck_putRet (v : Ret) (s : State) : parseAck (putRet v s) = putRet v (parseAck s) := by
  have h : codeLength (putRet v s) = codeLength s := rfl
  simp only [parseAck, parseAckBare, parseAckSplit, putRet_ftBuf, putRet_txCmd, h, advanceCursor_putRet,
    dispatchRsp_putRet]
  split <;> rfl

theorem handleNak_putRet (v : Ret) (s : State) : handleNak (putRet v s) = putRet v (handleNak s) := by
  have h : nakIsQuery (putRet v s) = nakIsQuery s := rfl
  unfold handleNak
  rw [h, parseAck_putRet]
  split <;> rfl

theorem react_putRet (v : Ret) (r : Result) (s : State) : react r (putRet v s) = putRet v (react r s) := by
  cases r
  case ack => exact parseAck_putRet v s
  case idle => exact txNext_putRet v s
  case nak => exact handleNak_putRet v s
  all_goals rfl

end Sys2Proof.Machine
end

