-- ==== Sys2Proof/Laws/Demux.lean ====
section
/-! SUPPORT. The decode table: what selects a row (42_decoder.md R213). -/

namespace Sys2Proof.Machine

/-- In a list whose images are distinct, looking for the image of a member finds that member. -/
theorem find?_image_of_nodup {α β : Type} [BEq β] [LawfulBEq β] (f : α → β) (l : List α) (a : α)
    (h : (l.map f).Nodup) (ha : a ∈ l) : l.find? (fun x => f x == f a) = some a := by
  induction l with
  | nil => cases ha
  | cons x t ih =>
    rw [List.map_cons, List.nodup_cons] at h
    rcases List.mem_cons.mp ha with rfl | hm
    · simp
    · have hne : f x ≠ f a := fun he => h.1 (he ▸ List.mem_map_of_mem hm)
      simp [hne, ih h.2 hm]

/-- The codes of the rows, in the table's order. -/
theorem map_familyCode_all (c : Config) : Family.all.map (familyCode c) = c.codes := rfl

/-- With distinct codes a row is selected by its own code. -/
theorem familyOf_familyCode (c : Config) (h : c.codes.Nodup) (f : Family) : familyOf c (familyCode c f) = some f :=
  find?_image_of_nodup (familyCode c) Family.all f h (by cases f <;> decide)

/-- A code that is none of the fourteen selects no row. -/
theorem familyOf_eq_none (c : Config) (code : Code) (h : code ∉ c.codes) : familyOf c code = none := by
  simp only [familyOf, List.find?_eq_none]
  intro f hf he
  exact h (map_familyCode_all c ▸ beq_iff_eq.mp he ▸ List.mem_map_of_mem hf)

/-- What `dispatch` does with a row's code (42_decoder.md R213, R229). -/
theorem dispatchRsp_familyCode (s : State) (h : s.cfg.codes.Nodup) (f : Family) (p : List Byte) :
    dispatchRsp (familyCode s.cfg f) p s = if familyMin f ≤ p.length then runFamily f p s else s := by
  unfold dispatchRsp rspRow
  rw [familyOf_familyCode s.cfg h f]
  dsimp only
  by_cases hm : familyMin f ≤ p.length <;> simp [hm]

/-- What `dispatch` does with a code of no row (42_decoder.md R228). -/
theorem dispatchRsp_unknown (s : State) (code : Code) (h : code ∉ s.cfg.codes) (p : List Byte) :
    dispatchRsp code p s = handleUnknown code p s := by
  unfold dispatchRsp rspRow
  rw [familyOf_eq_none s.cfg code h]

end Sys2Proof.Machine
end

