-- ==== Sys2Proof/Laws/Encoding.lean ====
section
/-! SUPPORT. The operand fields of the port words: each decoder inverts its encoder, and each word decodes from one value only. -/

namespace Sys2Proof

theorem decBool_encBool (b : Bool) : decBool (encBool b) = some b := by cases b <;> rfl

theorem encBool_of_decBool : ∀ (b : Byte) (v : Bool), decBool b = some v → encBool v = b := by
  intro b v; cases v <;> revert b <;> decide +kernel

theorem decMode_encMode (m : Mode) : decMode (encMode m) = some m := by cases m <;> rfl

theorem encMode_of_decMode : ∀ (b : Byte) (m : Mode), decMode b = some m → encMode m = b := by
  intro b m; cases m <;> revert b <;> decide +kernel

theorem decFan_encFan (f : Fan) : decFan (encFan f) = some f := by cases f <;> rfl

theorem encFan_of_decFan : ∀ (b : Byte) (f : Fan), decFan b = some f → encFan f = b := by
  intro b f; cases f <;> revert b <;> decide +kernel

theorem decResult_encResult (r : Result) : decResult (encResult r) = some r := by cases r <;> rfl

theorem encResult_of_decResult : ∀ (b : Byte) (r : Result), decResult b = some r → encResult r = b := by
  intro b r; cases r <;> revert b <;> decide +kernel

theorem decCoolSel_encCoolSel (t : CoolSel) : decCoolSel (encCoolSel t) = some t := by cases t <;> rfl

theorem encCoolSel_of_decCoolSel : ∀ (b : Byte) (t : CoolSel), decCoolSel b = some t → encCoolSel t = b := by
  intro b t; cases t <;> revert b <;> decide +kernel

theorem toNat_append_add {m n : Nat} (x : BitVec m) (y : BitVec n) :
    (x ++ y).toNat = x.toNat * 2 ^ n + y.toNat := by
  rw [BitVec.toNat_append, ← Nat.shiftLeft_add_eq_or_of_lt y.isLt, Nat.shiftLeft_eq]

theorem toNat_extractLsb'_div {n : Nat} (x : BitVec n) (s l : Nat) :
    (x.extractLsb' s l).toNat = x.toNat / 2 ^ s % 2 ^ l := by
  rw [BitVec.extractLsb'_toNat, Nat.shiftRight_eq_div_pow]

theorem encTime_decTime (a b c d : Byte) : encTime (decTime a b c d) = [a, b, c, d] := by
  have ha := a.isLt; have hb := b.isLt; have hc := c.isLt; have hd := d.isLt
  simp only [encTime, List.cons.injEq, and_true]
  refine ⟨?_, ?_, ?_, ?_⟩ <;> apply BitVec.eq_of_toNat_eq <;>
    simp only [decTime, toNat_extractLsb'_div, toNat_append_add] <;> omega

theorem decTime_of_encTime (t : Time) :
    decTime (t.extractLsb' 24 8) (t.extractLsb' 16 8) (t.extractLsb' 8 8) (t.extractLsb' 0 8) = t := by
  have h := t.isLt
  apply BitVec.eq_of_toNat_eq
  simp only [decTime, toNat_extractLsb'_div, toNat_append_add]
  omega

theorem encInt16_decInt16 (a b : Byte) : encInt16 (decInt16 a b) = [a, b] := by
  have ha := a.isLt; have hb := b.isLt
  simp only [encInt16, List.cons.injEq, and_true]
  refine ⟨?_, ?_⟩ <;> apply BitVec.eq_of_toNat_eq <;>
    simp only [decInt16, toNat_extractLsb'_div, toNat_append_add] <;> omega

theorem decInt16_of_encInt16 (v : Int16) : decInt16 (v.extractLsb' 8 8) (v.extractLsb' 0 8) = v := by
  have h := v.isLt
  apply BitVec.eq_of_toNat_eq
  simp only [decInt16, toNat_extractLsb'_div, toNat_append_add]
  omega

/-- A code that fits is read back, with what follows it. -/
theorem decCode_encCode (code rest : List Byte) (h : codeFits code = true) :
    decCode (encCode code ++ rest) = some (code, rest) := by
  have hl : code.length < 256 := by simpa [codeFits] using h
  have hn : (BitVec.ofNat 8 code.length).toNat = code.length := by simp [Nat.mod_eq_of_lt hl]
  simp only [encCode, List.cons_append, decCode, hn]
  simp

theorem encCode_of_decCode (w code rest : List Byte) (h : decCode w = some (code, rest)) :
    encCode code ++ rest = w ∧ codeFits code = true := by
  cases w with
  | nil => cases h
  | cons n t =>
    simp only [decCode] at h
    split at h
    · rename_i hn
      simp only [Option.some.injEq, Prod.mk.injEq] at h
      obtain ⟨rfl, rfl⟩ := h
      have hl : (t.take n.toNat).length = n.toNat := by simp [hn]
      refine ⟨?_, by simp only [codeFits, hl, decide_eq_true_eq]; exact n.isLt⟩
      simp only [encCode, hl, BitVec.ofNat_toNat, BitVec.setWidth_eq, List.cons_append, List.take_append_drop]
    · cases h

theorem decPayload_payloadBytes (p : Option Payload) : decPayload (payloadBytes p) = some p := by
  cases p <;> rfl

theorem payloadBytes_of_decPayload (w : List Byte) (p : Option Payload) (h : decPayload w = some p) :
    payloadBytes p = w := by
  unfold decPayload at h
  split at h
  · cases h; rfl
  · cases h; rfl
  · cases h

theorem decCodes_encCodes (q : List Code) (h : q.all codeFits = true) (fuel : Nat) (hf : q.length ≤ fuel) :
    decCodes fuel (encCodes q) = some q := by
  induction q generalizing fuel with
  | nil => cases fuel <;> rfl
  | cons c t ih =>
    rw [List.all_cons, Bool.and_eq_true] at h
    cases fuel with
    | zero => simp at hf
    | succ fuel =>
      have hd := decCode_encCode c (encCodes t) h.1
      have hi := ih h.2 fuel (by simpa using hf)
      simp only [encCodes, List.flatMap_cons] at hd hi ⊢
      have he : ∃ x y, encCode c ++ List.flatMap encCode t = x :: y := ⟨_, _, rfl⟩
      obtain ⟨x, y, he⟩ := he
      rw [he] at hd ⊢
      simp [decCodes, hd, hi]

theorem length_le_encCodes (q : List Code) : q.length ≤ (encCodes q).length := by
  induction q with
  | nil => simp
  | cons c t ih =>
    simp only [encCodes, List.flatMap_cons, List.length_append, List.length_cons] at ih ⊢
    simp only [encCode, List.length_cons]; omega

theorem encCodes_of_decCodes (fuel : Nat) (w : List Byte) (q : List Code) (h : decCodes fuel w = some q) :
    encCodes q = w ∧ q.all codeFits = true := by
  induction fuel generalizing w q with
  | zero =>
    cases w with
    | nil => simp [decCodes] at h; subst h; exact ⟨rfl, rfl⟩
    | cons => simp [decCodes] at h
  | succ fuel ih =>
    cases w with
    | nil => simp [decCodes] at h; subst h; exact ⟨rfl, rfl⟩
    | cons b t =>
      simp only [decCodes] at h
      split at h
      · cases h
      · rename_i c rest hc
        simp only [Option.map_eq_some_iff] at h
        obtain ⟨cs, hcs, rfl⟩ := h
        obtain ⟨h1, h2⟩ := ih _ _ hcs
        obtain ⟨h3, h4⟩ := encCode_of_decCode _ _ _ hc
        subst h1
        exact ⟨by rw [← h3]; rfl, by simp [h4, h2]⟩

/-- The operation byte of a row, and the row of an operation byte. -/
theorem opByte_toNat (row : Nat) (h : row < 128) : (opByte row).toNat = 0x80 + row := by
  simp only [opByte, BitVec.toNat_ofNat]; omega

theorem opByte_of_toNat (h : Byte) (hb : ¬ h.toNat < 0x80) : opByte (h.toNat - 0x80) = h := by
  have := h.isLt
  apply BitVec.eq_of_toNat_eq
  rw [opByte_toNat _ (by omega)]; omega

/-- A port word is parsed by its row's number. -/
theorem parse_opByte (row : Nat) (h : row < 128) (w : List Byte) : parse (opByte row :: w) = parseOp row w := by
  simp only [parse, opByte_toNat row h]
  rw [if_neg (Nat.not_lt.mpr (Nat.le_add_right _ _)), Nat.add_sub_cancel_left]

end Sys2Proof
end

