-- ==== Sys2Proof/Laws/Link.lean ====
section
/-! SUPPORT. What the operations of the link can do: one case lemma for `handle_rx`, one for `service`, one for `send`. -/

namespace Sys2Proof.Machine

/-! ## handle_rx -/

/-- A continuing handler changed the link state, appended a data byte, or changed nothing (40_transport.md R138, R144, R145,
R147; 30_encoding.md R114). -/
theorem handleRx_goOn (b : Byte) (s : State) (h : (handleRx b s).1 = .goOn) :
    (s.ftState = .queryAck ∧ b = ackByte ∧ (handleRx b s).2 = setLink .queryStx s) ∨
    (s.ftState = .queryStx ∧ b = stxByte ∧ (handleRx b s).2 = setLink .queryEtx s) ∨
    (s.ftState = .queryStx ∧ b = ackByte ∧ (handleRx b s).2 = s) ∨
    (s.ftState = .queryEtx ∧ b ≠ etxByte ∧ s.ftBuf.length < rxMax ∧ (handleRx b s).2 = setBuf (s.ftBuf ++ [b]) s) ∨
    ((s.ftState = .idle ∨ s.ftState = .cooldown) ∧ (handleRx b s).2 = s) := by
  unfold handleRx rxRow at *
  cases hs : s.ftState <;> simp only [hs] at h ⊢
  case queryAck =>
    by_cases h1 : b = ackByte
    · simp [h1, runRx, rxQueryAcked]
    · by_cases h2 : b = nakByte <;> simp [h1, h2, runRx, rxNak, rxError] at h
      simp [h2] at h1; exact absurd h (by simp [show ¬ nakByte = ackByte by decide])
  case commandAck =>
    by_cases h1 : b = ackByte
    · simp [h1, runRx, rxCommandAcked] at h
    · by_cases h2 : b = nakByte <;> simp [h1, h2, runRx, rxNak, rxError] at h
      simp [h2] at h1; exact absurd h (by simp [show ¬ nakByte = ackByte by decide])
  case queryStx =>
    by_cases h1 : b = stxByte
    · simp [h1, runRx, rxFrameStarts]
    · by_cases h2 : b = ackByte
      · simp [h2, show ¬ ackByte = stxByte by decide, runRx]
      · simp [h1, h2, runRx, rxError] at h
  case queryEtx =>
    by_cases h1 : b = etxByte
    · by_cases h2 : s.ftBuf = []
      · simp [h1, h2, runRx, rxError] at h
      · by_cases h3 : frameOk s.ftBuf = true <;> simp [h1, h2, h3, runRx, rxError, rxFrameGood] at h
    · by_cases h2 : s.ftBuf.length < rxMax
      · simp [h1, h2, runRx, rxData]
      · simp [h1, h2, runRx, rxData, rxError] at h
  case idle => simp [runRx]
  case cooldown => simp [runRx]

/-- A terminal handler ended the exchange in `Cooldown` (40_transport.md R139 to R151). -/
theorem handleRx_done (b : Byte) (s : State) (r : Result) (h : (handleRx b s).1 = .done r) :
    (r = .ack ∧ s.ftState = .commandAck ∧ b = ackByte ∧ (handleRx b s).2 = complete .turnaround s) ∨
    (r = .ack ∧ s.ftState = .queryEtx ∧ b = etxByte ∧ s.ftBuf ≠ [] ∧ frameOk s.ftBuf = true ∧
      (handleRx b s).2 = complete .turnaround (ackEcho (setBuf s.ftBuf.dropLast s))) ∨
    (r = .nak ∧ (s.ftState = .queryAck ∨ s.ftState = .commandAck) ∧ b = nakByte ∧
      (handleRx b s).2 = complete .turnaround s) ∨
    (r = .error ∧ s.ftState.receiving = true ∧ (handleRx b s).2 = complete .error s) := by
  unfold handleRx rxRow at *
  cases hs : s.ftState <;> simp only [hs] at h ⊢
  case queryAck =>
    by_cases h1 : b = ackByte
    · simp [h1, runRx, rxQueryAcked] at h
    · by_cases h2 : b = nakByte
      · simp_all [runRx, rxNak]
      · simp_all [runRx, rxError, CommState.receiving]
  case commandAck =>
    by_cases h1 : b = ackByte
    · simp_all [runRx, rxCommandAcked]
    · by_cases h2 : b = nakByte
      · simp_all [runRx, rxNak]
      · simp_all [runRx, rxError, CommState.receiving]
  case queryStx =>
    by_cases h1 : b = stxByte
    · simp [h1, runRx, rxFrameStarts] at h
    · by_cases h2 : b = ackByte
      · simp [h2, show ¬ ackByte = stxByte by decide, runRx] at h
      · simp_all [runRx, rxError, CommState.receiving]
  case queryEtx =>
    by_cases h1 : b = etxByte
    · by_cases h2 : s.ftBuf = []
      · simp_all [runRx, rxError, CommState.receiving]
      · by_cases h3 : frameOk s.ftBuf = true
        · simp_all [runRx, rxFrameGood]
        · simp_all [runRx, rxError, CommState.receiving]
    · by_cases h2 : s.ftBuf.length < rxMax
      · simp [h1, h2, runRx, rxData] at h
      · simp [h1, h2, runRx, rxData, rxError] at h
        simp [h1, h2, ← h, runRx, rxData, rxError, CommState.receiving]
  case idle => simp [runRx] at h
  case cooldown => simp [runRx] at h

/-- While a handler continues in a receiving state, the state it leaves is a receiving one. -/
theorem handleRx_goOn_receiving (b : Byte) (s : State) (h : (handleRx b s).1 = .goOn) (hr : s.ftState.receiving = true) :
    (handleRx b s).2.ftState.receiving = true := by
  rcases handleRx_goOn b s h with ⟨h1, -, h2⟩ | ⟨h1, -, h2⟩ | ⟨h1, -, h2⟩ | ⟨h1, -, -, h2⟩ | ⟨h1, h2⟩ <;>
    simp_all [CommState.receiving]

/-! ## The byte loop -/

/-- What holds before the byte loop and survives a byte taken off `rx` and a handler holds after it. -/
theorem rxLoop_preserves (P : State → Prop) (hc : ∀ rest s, P s → P (rxConsume rest s))
    (hh : ∀ b s, P s → P (handleRx b s).2) (bs : List Byte) (s : State) (h : P s) : P (rxLoop bs s).2 := by
  induction bs generalizing s with
  | nil => exact h
  | cons b rest ih =>
    have hb := hh b _ (hc rest s h)
    simp only [rxLoop]
    split
    · rename_i heq; rw [heq] at hb; exact hb
    · rename_i heq; rw [heq] at hb; exact ih _ hb

/-- A byte whose handler continues leaves the rest to the loop. -/
theorem rxLoop_goOn (b : Byte) (rest : List Byte) (s : State) (h : (handleRx b (rxConsume rest s)).1 = .goOn) :
    rxLoop (b :: rest) s = rxLoop rest (handleRx b (rxConsume rest s)).2 := by
  simp only [rxLoop]
  split <;> simp_all

/-- A byte whose handler is terminal ends the loop. -/
theorem rxLoop_done (b : Byte) (rest : List Byte) (s : State) (r : Result)
    (h : (handleRx b (rxConsume rest s)).1 = .done r) :
    rxLoop (b :: rest) s = (r, (handleRx b (rxConsume rest s)).2) := by
  simp only [rxLoop]
  split <;> simp_all

/-- The byte loop in a receiving state: it runs out of input in a receiving state, or it ends in `Cooldown` with the result's
interval (40_transport.md R135, R153). -/
theorem rxLoop_result (bs : List Byte) (s : State) (hr : s.ftState.receiving = true) :
    ((rxLoop bs s).1 = .busy ∧ (rxLoop bs s).2.ftState.receiving = true) ∨
    (((rxLoop bs s).1 = .ack ∨ (rxLoop bs s).1 = .nak ∧ (s.ftState = .queryAck ∨ s.ftState = .commandAck)) ∧
      (rxLoop bs s).2.ftState = .cooldown ∧ (rxLoop bs s).2.ftCool = s.cfg.tTurnaround) ∨
    ((rxLoop bs s).1 = .error ∧ (rxLoop bs s).2.ftState = .cooldown ∧ (rxLoop bs s).2.ftCool = s.cfg.tError) := by
  induction bs generalizing s with
  | nil => exact .inl ⟨rfl, hr⟩
  | cons b rest ih =>
    cases hb : (handleRx b (rxConsume rest s)).1 with
    | goOn =>
      rw [rxLoop_goOn b rest s hb]
      have hn : ∀ c, (handleRx b (rxConsume rest s)).2.ftState = c → c = .queryAck ∨ c = .commandAck → s.ftState = c := by
        rcases handleRx_goOn b _ hb with ⟨-, -, h⟩ | ⟨-, -, h⟩ | ⟨-, -, h⟩ | ⟨-, -, -, h⟩ | ⟨-, h⟩ <;> rw [h] <;>
          rintro c rfl <;> simp
      have hk := ih _ (handleRx_goOn_receiving b _ hb hr)
      simp only [handleRx_cfg, rxConsume_cfg] at hk
      rcases hk with hk | ⟨hk | ⟨hk, hq⟩, h2⟩ | hk
      · exact .inl hk
      · exact .inr (.inl ⟨.inl hk, h2⟩)
      · refine .inr (.inl ⟨.inr ⟨hk, ?_⟩, h2⟩)
        rcases hq with hq | hq
        · exact .inl (hn _ hq (.inl rfl))
        · exact .inr (hn _ hq (.inr rfl))
      · exact .inr (.inr hk)
    | done r =>
      rw [rxLoop_done b rest s r hb]
      rcases handleRx_done b _ r hb with ⟨rfl, -, -, h⟩ | ⟨rfl, -, -, -, -, h⟩ | ⟨rfl, hq, -, h⟩ | ⟨rfl, -, h⟩
      · exact .inr (.inl ⟨.inl rfl, by rw [h]; exact ⟨rfl, rfl⟩⟩)
      · exact .inr (.inl ⟨.inl rfl, by rw [h]; exact ⟨rfl, rfl⟩⟩)
      · exact .inr (.inl ⟨.inr ⟨rfl, hq⟩, by rw [h]; exact ⟨rfl, rfl⟩⟩)
      · exact .inr (.inr ⟨rfl, by rw [h]; exact ⟨rfl, rfl⟩⟩)

/-! ## service -/

/-- The case that a receiving state selects (40_transport.md R135, R136). -/
theorem serviceRow_receiving (s : State) (n : Nat) (h : s.ftState.receiving = true) :
    serviceRow s n = if elapsed s s.ftTLast n then .timeout else .receive := by
  cases hs : s.ftState <;> simp_all [serviceRow, CommState.receiving]

/-- What holds before `service` and survives its writes holds after it. -/
theorem service_preserves (P : State → Prop) (hi : ∀ s, P s → P (returnToIdle s))
    (hc : ∀ rest s, P s → P (rxConsume rest s)) (hh : ∀ b s, P s → P (handleRx b s).2) (s : State) (h : P s) :
    P (service s).2 := by
  unfold service
  cases serviceRow s s.cfg.tResponse
  · exact h
  · simp only [serviceCooldown]; split
    · exact hi s h
    · exact h
  · exact rxLoop_preserves P hc hh s.rx s h
  · exact hi s h

/-! ## send -/

/-- `send` is refused with no effect, or the frame went out (40_transport.md R130 to R132, 41_scheduler.md R183). -/
theorem send_cases (code : Code) (p : Option Payload) (s : State) :
    (send code p s = (.busy, s) ∧ s.ftState ≠ .idle) ∨
    (send code p s = (.error, s) ∧ s.ftState = .idle ∧ ¬ (1 ≤ code.length ∧ code.length ≤ maxCmdLen)) ∨
    (send code p s = (.ack, setTxCmd code (sendFrameDone code p s)) ∧ s.ftState = .idle ∧ 1 ≤ code.length ∧
      code.length ≤ maxCmdLen) := by
  unfold send sendFrame sendRow
  by_cases h : s.ftState = .idle
  · by_cases hl : 1 ≤ code.length ∧ code.length ≤ maxCmdLen
    · simp [h, hl]
    · simp only [h, ne_eq, not_true_eq_false, if_false, if_neg hl]
      exact .inr (.inl ⟨trivial, trivial, hl⟩)
  · simp [h]

/-- An accepted `send`, field by field. -/
theorem send_accepted (code : Code) (p : Option Payload) (s : State) (h : s.ftState = .idle) (h1 : 1 ≤ code.length)
    (h2 : code.length ≤ maxCmdLen) :
    (send code p s).2 = { s with
      ftBuf := [], rx := [], tx := s.tx ++ encodeFrame code p, ftTLast := s.now, ftState := sentState p
      txCmd := code } := by
  rcases send_cases code p s with ⟨-, hn⟩ | ⟨-, -, hn⟩ | ⟨h', -⟩
  · exact absurd h hn
  · exact absurd ⟨h1, h2⟩ hn
  · rw [h']; rfl

/-- What holds before `send` and after an accepted one holds after any. -/
theorem send_preserves (P : State → Prop) (code : Code) (p : Option Payload) (s : State) (h : P s)
    (hs : 1 ≤ code.length → code.length ≤ maxCmdLen → P (setTxCmd code (sendFrameDone code p s))) :
    P (send code p s).2 := by
  rcases send_cases code p s with ⟨h', -⟩ | ⟨h', -⟩ | ⟨h', -, h1, h2⟩ <;> rw [h']
  · exact h
  · exact h
  · exact hs h1 h2

/-- What the selector can leave: what holds before it, after the restart of a scan, and after an accepted `send` from either,
holds after it (41_scheduler.md R178 to R184). -/
theorem txNext_preserves (P : State → Prop) (s : State) (h : P s) (hst : P (scanStarted s))
    (hs : ∀ code p t, P t → 1 ≤ code.length → code.length ≤ maxCmdLen → P (setTxCmd code (sendFrameDone code p t))) :
    P (txNext s) := by
  unfold txNext
  cases txArm s
  · exact send_preserves P _ _ s h (hs _ _ s h)
  · exact send_preserves P _ _ s h (hs _ _ s h)
  · exact send_preserves P _ _ s h (hs _ _ s h)
  · simp only [runArm, startScan]
    split
    · exact hst
    · exact send_preserves P _ _ _ hst (hs _ _ _ hst)
  · exact h

end Sys2Proof.Machine
end

