-- ==== Sys2Proof/Laws/PerInstr.lean ====
section
/-! SUPPORT. For each operation: the first byte of its word is the first byte of its row of spec/opcode_table.json. -/

namespace Sys2Proof.Laws.EncodeHead

/-- The first byte of the words of the row number `n`: the wire byte of a row with a wire pattern (30_encoding.md R90 to R93), else
the operation byte of log 1. -/
def headByte (n : Nat) : Byte :=
  ([stxByte, etxByte, enqByte, ackByte, nakByte, stxByte, stxByte, stxByte, stxByte][n]?).getD (opByte n)

/-- The word of the operation begins with the first byte of its row; the constructors stand in the table's order. -/
def Statement (i : Instr) : Prop := (encode i).head? = some (headByte i.ctorIdx)

theorem stx : Statement (.stx) := rfl
theorem etx : Statement (.etx) := rfl
theorem enq : Statement (.enq) := rfl
theorem ack : Statement (.ack) := rfl
theorem nak : Statement (.nak) := rfl
theorem frameQ1 (c : Byte) : Statement (.frameQ1 c) := rfl
theorem frameQ2 (c d : Byte) : Statement (.frameQ2 c d) := rfl
theorem frameC1 (c : Byte) (p : Payload) : Statement (.frameC1 c p) := rfl
theorem frameC2 (c d : Byte) (p : Payload) : Statement (.frameC2 c d p) := rfl
theorem frameR (body : List Byte) : Statement (.frameR body) := rfl
theorem checksum (body : List Byte) : Statement (.checksum body) := rfl
theorem encodeFrame (code : Code) (p : Option Payload) : Statement (.encodeFrame code p) := rfl
theorem cmdClimate : Statement (.cmdClimate) := rfl
theorem cmdSwing : Statement (.cmdSwing) := rfl
theorem queryContinue : Statement (.queryContinue) := rfl
theorem queryStart : Statement (.queryStart) := rfl
theorem idleNothing : Statement (.idleNothing) := rfl
theorem ackEcho : Statement (.ackEcho) := rfl
theorem rxQackAck : Statement (.rxQackAck) := rfl
theorem rxQackNak : Statement (.rxQackNak) := rfl
theorem rxQackOther (b : Byte) : Statement (.rxQackOther b) := rfl
theorem rxCackAck : Statement (.rxCackAck) := rfl
theorem rxCackNak : Statement (.rxCackNak) := rfl
theorem rxCackOther (b : Byte) : Statement (.rxCackOther b) := rfl
theorem rxQstxStx : Statement (.rxQstxStx) := rfl
theorem rxQstxAck : Statement (.rxQstxAck) := rfl
theorem rxQstxOther (b : Byte) : Statement (.rxQstxOther b) := rfl
theorem rxQetxData (b : Byte) : Statement (.rxQetxData b) := rfl
theorem rxQetxEtxEmpty : Statement (.rxQetxEtxEmpty) := rfl
theorem rxQetxEtxGood : Statement (.rxQetxEtxGood) := rfl
theorem rxQetxEtxBad : Statement (.rxQetxEtxBad) := rfl
theorem rxDispatch (b : Byte) : Statement (.rxDispatch b) := rfl
theorem rxNotConsumed (b : Byte) : Statement (.rxNotConsumed b) := rfl
theorem sendFrameBusy (code : Code) (p : Option Payload) : Statement (.sendFrameBusy code p) := rfl
theorem sendFrameOk (code : Code) (p : Option Payload) : Statement (.sendFrameOk code p) := rfl
theorem sendFrameBadLen (code : Code) (p : Option Payload) : Statement (.sendFrameBadLen code p) := rfl
theorem serviceIdle : Statement (.serviceIdle) := rfl
theorem serviceCooldown : Statement (.serviceCooldown) := rfl
theorem serviceReceive : Statement (.serviceReceive) := rfl
theorem serviceTimeout : Statement (.serviceTimeout) := rfl
theorem complete (r : Result) (t : CoolSel) : Statement (.complete r t) := rfl
theorem rspBasic (p : List Byte) : Statement (.rspBasic p) := rfl
theorem rspSwing (p : List Byte) : Statement (.rspSwing p) := rfl
theorem rspTempCombined (p : List Byte) : Statement (.rspTempCombined p) := rfl
theorem rspVersion (p : List Byte) : Statement (.rspVersion p) := rfl
theorem rspFanMode (p : List Byte) : Statement (.rspFanMode p) := rfl
theorem rspTempInside (p : List Byte) : Statement (.rspTempInside p) := rfl
theorem rspTempCoil (p : List Byte) : Statement (.rspTempCoil p) := rfl
theorem rspTempOutside (p : List Byte) : Statement (.rspTempOutside p) := rfl
theorem rspFanRpm (p : List Byte) : Statement (.rspFanRpm p) := rfl
theorem rspCompressor (p : List Byte) : Statement (.rspCompressor p) := rfl
theorem rspSetpoint (p : List Byte) : Statement (.rspSetpoint p) := rfl
theorem rspSwingAngle (p : List Byte) : Statement (.rspSwingAngle p) := rfl
theorem echoClimate : Statement (.echoClimate) := rfl
theorem echoSwing : Statement (.echoSwing) := rfl
theorem rspUnknown (code : Code) (p : List Byte) : Statement (.rspUnknown code p) := rfl
theorem rspShort (code : Code) (p : List Byte) : Statement (.rspShort code p) := rfl
theorem parseAckBare : Statement (.parseAckBare) := rfl
theorem parseAckSplit : Statement (.parseAckSplit) := rfl
theorem advance : Statement (.advance) := rfl
theorem dispatch (code : Code) (p : List Byte) : Statement (.dispatch code p) := rfl
theorem send (code : Code) (p : Option Payload) : Statement (.send code p) := rfl
theorem txNext : Statement (.txNext) := rfl
theorem handleNakQuery : Statement (.handleNakQuery) := rfl
theorem handleNakCommand : Statement (.handleNakCommand) := rfl
theorem reactError : Statement (.reactError) := rfl
theorem reactTimeout : Statement (.reactTimeout) := rfl
theorem reactBusy : Statement (.reactBusy) := rfl
theorem hostInit (querySet : List Code) : Statement (.hostInit querySet) := rfl
theorem tick (now : Time) : Statement (.tick now) := rfl
theorem requestClimateChange (power : Bool) (mode : Mode) (setpoint : Int16) (fan : Fan) : Statement (.requestClimateChange power mode setpoint fan) := rfl
theorem requestSwingChange (vertical horizontal : Bool) : Statement (.requestSwingChange vertical horizontal) := rfl
theorem requestRefresh : Statement (.requestRefresh) := rfl
theorem setDiagMode (b : Bool) : Statement (.setDiagMode b) := rfl
theorem isReady : Statement (.isReady) := rfl
theorem snapshot : Statement (.snapshot) := rfl

end Sys2Proof.Laws.EncodeHead
end

