-- ==== Sys2Proof/Laws/React.lean ====
section
/-! SUPPORT. The two halves of a tick as operations: the `service` case a state selects and the reaction to its result
(41_scheduler.md R172), and what a reaction reports. -/

namespace Sys2Proof.Machine

open Sys2Proof.Safety

/-- The case of `service` a state selects does what `service` does (40_transport.md R133 to R136). -/
theorem exec_serviceOperation (s : State) : exec (serviceOperation s) s = .next (returned (service s)) := by
  by_cases hi : s.ftState = .idle
  · simp [serviceOperation, exec, execServiceIdle, service, serviceRow, hi, select, returned]
  · by_cases hc : s.ftState = .cooldown
    · simp [serviceOperation, exec, execServiceCooldown, service, serviceRow, hc, select]
    · have hr := serviceRow_receiving s s.cfg.tResponse ((receiving_iff _).mpr ⟨hi, hc⟩)
      by_cases ht : s.cfg.tResponse ≤ (s.now - s.ftTLast).toNat
      · rw [(elapsed_iff s s.ftTLast s.cfg.tResponse).mpr ht] at hr
        simp only [serviceOperation, hi, hc, ht, if_true, if_false, exec, execServiceTimeout, service, hr]; rfl
      · have he : elapsed s s.ftTLast s.cfg.tResponse = false := by
          rw [Bool.eq_false_iff]; exact fun h => ht ((elapsed_iff _ _ _).mp h)
        rw [he] at hr
        simp only [serviceOperation, hi, hc, ht, if_false, exec, execServiceReceive, service, hr]; rfl

theorem nakIsQuery_iff (s : State) :
    nakIsQuery s = true ↔ s.cursor < s.pool.length ∧ s.pool[s.cursor]? = some s.txCmd := by
  simp only [nakIsQuery, Bool.and_eq_true, decide_eq_true_eq]

/-- The operation of a reaction does what the reaction does (41_scheduler.md R172, R185, R186). -/
theorem exec_reactionOperation (r : Result) (s : State) :
    exec (reactionOperation r s) s = .next (putRet .nothing (react r s)) := by
  cases r
  case ack =>
    by_cases h : s.ftBuf = [] <;>
      simp [reactionOperation, react, h, exec, execParseAckBare, execParseAckSplit, select, parseAck]
  case nak =>
    by_cases h : s.cursor < s.pool.length ∧ s.pool[s.cursor]? = some s.txCmd
    · have hn := (nakIsQuery_iff s).mpr h
      rw [reactionOperation, if_pos h]
      simp [exec, execHandleNakQuery, hn, select, react, handleNak]
    · have hn : nakIsQuery s = false := Bool.eq_false_iff.mpr fun hq => h ((nakIsQuery_iff s).mp hq)
      rw [reactionOperation, if_neg h]
      simp [exec, execHandleNakCommand, hn, select, react, handleNak]
  all_goals rfl

/-- What the unknown-code handler does (42_decoder.md R228): nothing, one log event, or two and the write of the cache. -/
theorem handleUnknown_cases (code : Code) (p : List Byte) (s : State) :
    (diagnosing s = false ∧ handleUnknown code p s = s) ∨
    (diagnosing s = true ∧ cacheLookup code s.diffCache = some p ∧
      handleUnknown code p s = emitEvent (.logUnknown code p (unknownHint p)) s) ∨
    (diagnosing s = true ∧ cacheLookup code s.diffCache ≠ some p ∧
      handleUnknown code p s = setCache (cacheInsert code p s.diffCache)
        (emitEvent (.logChanged code (cacheLookup code s.diffCache) p)
          (emitEvent (.logUnknown code p (unknownHint p)) s))) := by
  by_cases hd : diagnosing s = true
  · by_cases hc : cacheLookup code s.diffCache = some p
    · exact .inr (.inl ⟨hd, hc, by simp [handleUnknown, hd, noteChange, hc]⟩)
    · exact .inr (.inr ⟨hd, hc, by simp [handleUnknown, hd, noteChange, hc]⟩)
  · exact .inl ⟨Bool.eq_false_iff.mpr hd, by simp [handleUnknown, hd]⟩

/-- The events `dispatch` emits are log events (60_exceptions.md R268). -/
theorem dispatchRsp_report (code : Code) (p : List Byte) (s : State) :
    ∃ logs, (dispatchRsp code p s).report = s.report ++ logs ∧ ∀ e ∈ logs, ∀ r, e ≠ .tickResult r := by
  unfold dispatchRsp
  split
  · exact ⟨[], by simp, by simp⟩
  · exact ⟨[], by simp, by simp⟩
  · rcases handleUnknown_cases code p s with ⟨-, h⟩ | ⟨-, -, h⟩ | ⟨-, -, h⟩ <;> rw [h]
    · exact ⟨[], by simp, by simp⟩
    · exact ⟨[.logUnknown code p (unknownHint p)], by simp, by simp⟩
    · exact ⟨[.logUnknown code p (unknownHint p), .logChanged code (cacheLookup code s.diffCache) p], by simp, by simp⟩

theorem parseAck_report (s : State) :
    ∃ logs, (parseAck s).report = s.report ++ logs ∧ ∀ e ∈ logs, ∀ r, e ≠ .tickResult r := by
  unfold parseAck
  split
  · exact dispatchRsp_report _ _ s
  · obtain ⟨logs, h, hl⟩ :=
      dispatchRsp_report (s.ftBuf.take (codeLength s)) (s.ftBuf.drop (codeLength s)) (advanceCursor s)
    exact ⟨logs, by rw [parseAckSplit, h, advanceCursor_eq], hl⟩

end Sys2Proof.Machine
end

