-- ==== Sys2Proof/Laws/Step.lean ====
section
/-! SUPPORT. What a step can be: one lemma for each kind of input, and one that says all that a step with a next state can have done. -/

namespace Sys2Proof.Machine

theorem fetch_wf (s : State) (h : s.cfg.wf = true) : fetch s = fetchHead s := if_pos h

/-- A run with ill-formed parameters is refused (93 U6). -/
theorem step_parameters (s : State) (h : s.cfg.wf = false) : step s = .refused .parameters := by
  simp [step, fetch, h]

theorem step_nothing (s : State) (h : s.cfg.wf = true) (hi : s.inputs = []) : step s = .next s := by
  simp [step, fetch_wf s h, fetchHead, hi]

theorem step_rxByte (s : State) (b : Byte) (rest : List Input) (h : s.cfg.wf = true) (hi : s.inputs = .rxByte b :: rest) :
    step s = .next (rxArrive [b] { s with inputs := rest }) := by
  simp [step, fetch_wf s h, fetchHead, hi]

theorem step_row (s : State) (w : List Byte) (rest : List Input) (i : Instr) (h : s.cfg.wf = true)
    (hi : s.inputs = .row w :: rest) (hd : decode w = .ok i) : step s = exec i { s with inputs := rest } := by
  simp [step, fetch_wf s h, fetchHead, hi, fetchRow, hd]

theorem step_call (s : State) (w : List Byte) (rest : List Input) (i : Instr) (h : s.cfg.wf = true)
    (hi : s.inputs = .call w :: rest) (hd : decode w = .ok i) :
    step s = if hostOperation i then exec i { s with inputs := rest } else .refused .noPort := by
  cases hh : hostOperation i <;> simp [step, fetch_wf s h, fetchHead, hi, fetchCall, hd, hh]

theorem step_undecodable (s : State) (w : List Byte) (rest : List Input) (e : DecodeError) (h : s.cfg.wf = true)
    (hi : s.inputs = .call w :: rest ∨ s.inputs = .row w :: rest) (hd : decode w = .error e) :
    step s = .refused (.undecodable e) := by
  rcases hi with hi | hi <;> simp [step, fetch_wf s h, fetchHead, hi, fetchCall, fetchRow, hd]

/-- Where a step answers a next state, the parameters are well formed and it did nothing, took a byte, or ran one operation: a host
operation called through the port, or a row of the model's own access. -/
theorem step_next (s t : State) (h : step s = .next t) :
    s.cfg.wf = true ∧
      ((s.inputs = [] ∧ t = s) ∨
        (∃ b rest, s.inputs = .rxByte b :: rest ∧ t = rxArrive [b] { s with inputs := rest }) ∨
        (∃ w rest i, s.inputs = .call w :: rest ∧ decode w = .ok i ∧ hostOperation i = true ∧
          exec i { s with inputs := rest } = .next t) ∨
        ∃ w rest i, s.inputs = .row w :: rest ∧ decode w = .ok i ∧ exec i { s with inputs := rest } = .next t) := by
  have hwf : s.cfg.wf = true := by
    by_contra hn
    rw [step_parameters s (Bool.eq_false_iff.mpr hn)] at h; cases h
  refine ⟨hwf, ?_⟩
  cases hi : s.inputs with
  | nil => rw [step_nothing s hwf hi] at h; cases h; exact .inl ⟨rfl, rfl⟩
  | cons x rest =>
    cases x with
    | rxByte b => rw [step_rxByte s b rest hwf hi] at h; cases h; exact .inr (.inl ⟨b, rest, rfl, rfl⟩)
    | call w =>
      cases hd : decode w with
      | error e => rw [step_undecodable s w rest e hwf (.inl hi) hd] at h; cases h
      | ok i =>
        rw [step_call s w rest i hwf hi hd] at h
        split at h
        · exact .inr (.inr (.inl ⟨w, rest, i, rfl, hd, by assumption, h⟩))
        · cases h
    | row w =>
      cases hd : decode w with
      | error e => rw [step_undecodable s w rest e hwf (.inr hi) hd] at h; cases h
      | ok i =>
        rw [step_row s w rest i hwf hi hd] at h
        exact .inr (.inr (.inr ⟨w, rest, i, rfl, hd, h⟩))

/-- A row put where the step fetches runs as that row. -/
theorem step_withFetchWord (s : State) (nbits w : Nat) (i : Instr) (h : s.cfg.wf = true)
    (hd : decodeTableWord nbits w = some i) : step (s.withFetchWord nbits w) = exec i s := by
  have hd' : decode (tableWord nbits w) = .ok i := by
    unfold decodeTableWord at hd
    split at hd
    · rename_i j hj; rw [hj]; cases hd; rfl
    · cases hd
  exact step_row (s.withFetchWord nbits w) _ s.inputs i h rfl hd'

end Sys2Proof.Machine
end

