-- ==== Sys2Proof/Tests/Slice0.lean ====
section
/-! SUPPORT. Tests on fixed values. The expected results are those of the spec's vectors (95_test_vectors.md, named V-..), of its rules,
or of hand calculation from them; the words are written out from 30_encoding.md R90 to R94 and from the port encoding of log 1. -/

namespace Sys2Proof.Tests

open Sys2Proof.Machine Sys2Proof.Safety

/-! ## Small states -/

/-- The machine after reset. -/
def base : State := State.reset

/-- The machine with the link in a state and bytes in the buffer. -/
def linked (st : CommState) (buf : List Byte) : State := { base with ftState := st, ftBuf := buf }

/-- The machine with a time, a stamp and a cooldown length. -/
def timed (st : CommState) (now last : Time) (cool : Nat) : State :=
  { base with ftState := st, now := now, ftTLast := last, ftCool := cool }

/-- The machine in a scan of a pool. -/
def scanning (pool : List Code) (cursor : Nat) : State :=
  { base with pool := pool, cursor := cursor, refreshRequested := false }

/-- One field of the state an operation leaves. -/
def field {α : Type} (f : State → α) : Out → Option α
  | .next t => some (f t)
  | .fault _ => none
  | .refused _ => none

/-- The refusal an operation answers. -/
def refusal : Out → Option Refusal
  | .next _ => none
  | .fault _ => none
  | .refused r => some r

/-- The codes "F1", "F5", "F9", "RH", "Ra" of 30_encoding.md R112. -/
def codeF1 : Code := [0x46#8, 0x31#8]
def codeF5 : Code := [0x46#8, 0x35#8]
def codeF9 : Code := [0x46#8, 0x39#8]
def codeRH : Code := [0x52#8, 0x48#8]
def codeRa : Code := [0x52#8, 0x61#8]
/-- The codes "D1" and "D5" (30_encoding.md R112). -/
def codeD1 : Code := [0x44#8, 0x31#8]
def codeD5 : Code := [0x44#8, 0x35#8]
/-- The code "SX", which no row of the decode table has. -/
def codeSX : Code := [0x53#8, 0x58#8]

/-- The body of V-F7's response "G1" with the payload 31 33 4E 41. -/
def bodyG1 : List Byte := [0x47#8, 0x31#8, 0x31#8, 0x33#8, 0x4E#8, 0x41#8]

/-! ## Well-formedness refuses -/

theorem test_wf_frameR_empty : Instr.wf (.frameR []) = false := by decide
theorem test_wf_frameR_long : Instr.wf (.frameR [0#8, 0#8, 0#8, 0#8, 0#8, 0#8, 0#8, 0#8]) = false := by decide
theorem test_wf_encodeFrame_code : Instr.wf (.encodeFrame (List.replicate 256 0x41#8) none) = false := by decide +kernel
theorem test_wf_rxQackOther_ack : Instr.wf (.rxQackOther 0x06#8) = false := by decide
theorem test_wf_rxQackOther_nak : Instr.wf (.rxQackOther 0x15#8) = false := by decide
theorem test_wf_rxCackOther_ack : Instr.wf (.rxCackOther 0x06#8) = false := by decide
theorem test_wf_rxCackOther_nak : Instr.wf (.rxCackOther 0x15#8) = false := by decide
theorem test_wf_rxQstxOther_stx : Instr.wf (.rxQstxOther 0x02#8) = false := by decide
theorem test_wf_rxQstxOther_ack : Instr.wf (.rxQstxOther 0x06#8) = false := by decide
theorem test_wf_rxQetxData_etx : Instr.wf (.rxQetxData 0x03#8) = false := by decide
theorem test_wf_sendFrameBusy_code : Instr.wf (.sendFrameBusy (List.replicate 256 0x41#8) none) = false := by decide +kernel
theorem test_wf_sendFrameOk_empty : Instr.wf (.sendFrameOk [] none) = false := by decide
theorem test_wf_sendFrameOk_long : Instr.wf (.sendFrameOk [0x46#8, 0x31#8, 0x30#8] none) = false := by decide
theorem test_wf_sendFrameBadLen_two : Instr.wf (.sendFrameBadLen [0x46#8, 0x31#8] none) = false := by decide
theorem test_wf_sendFrameBadLen_code : Instr.wf (.sendFrameBadLen (List.replicate 256 0x41#8) none) = false := by decide +kernel
theorem test_wf_complete_busy : Instr.wf (.complete .busy .error) = false := by decide
theorem test_wf_complete_ack_error : Instr.wf (.complete .ack .error) = false := by decide
theorem test_wf_complete_nak_error : Instr.wf (.complete .nak .error) = false := by decide
theorem test_wf_complete_error_turnaround : Instr.wf (.complete .error .turnaround) = false := by decide
theorem test_wf_rspUnknown_code : Instr.wf (.rspUnknown (List.replicate 256 0x41#8) []) = false := by decide +kernel
theorem test_wf_rspShort_code : Instr.wf (.rspShort (List.replicate 256 0x41#8) []) = false := by decide +kernel
theorem test_wf_dispatch_code : Instr.wf (.dispatch (List.replicate 256 0x41#8) []) = false := by decide +kernel
theorem test_wf_send_code : Instr.wf (.send (List.replicate 256 0x41#8) none) = false := by decide +kernel
theorem test_wf_hostInit_code : Instr.wf (.hostInit [List.replicate 256 0x41#8]) = false := by decide +kernel

/-! ## The decoder reads the words written out from the encodings -/

theorem test_decode_stx : decode [0x02#8] = .ok .stx := by decide
theorem test_decode_etx : decode [0x03#8] = .ok .etx := by decide
theorem test_decode_enq : decode [0x05#8] = .ok .enq := by decide
theorem test_decode_ack : decode [0x06#8] = .ok .ack := by decide
theorem test_decode_nak : decode [0x15#8] = .ok .nak := by decide
theorem test_decode_frameQ1 : decode [0x02#8, 0x41#8, 0x41#8, 0x03#8] = .ok (.frameQ1 0x41#8) := by decide
theorem test_decode_frameQ2 :
    decode [0x02#8, 0x46#8, 0x31#8, 0x77#8, 0x03#8] = .ok (.frameQ2 0x46#8 0x31#8) := by decide
theorem test_decode_frameC1 :
    decode [0x02#8, 0x41#8, 0x31#8, 0x33#8, 0x4E#8, 0x41#8, 0x34#8, 0x03#8] =
      .ok (.frameC1 0x41#8 ⟨0x31#8, 0x33#8, 0x4E#8, 0x41#8⟩) := by decide
theorem test_decode_frameC2 :
    decode [0x02#8, 0x44#8, 0x31#8, 0x31#8, 0x33#8, 0xE8#8, 0x41#8, 0x05#8, 0x03#8] =
      .ok (.frameC2 0x44#8 0x31#8 ⟨0x31#8, 0x33#8, 0xE8#8, 0x41#8⟩) := by decide
theorem test_decode_frameR :
    decode [0x89#8, 0x02#8, 0x47#8, 0x31#8, 0x31#8, 0x33#8, 0x4E#8, 0x41#8, 0x6B#8, 0x03#8] =
      .ok (.frameR [0x47#8, 0x31#8, 0x31#8, 0x33#8, 0x4E#8, 0x41#8, 0x6B#8]) := by decide
theorem test_decode_checksum : decode [0x8A#8, 0x80#8, 0x82#8] = .ok (.checksum [0x80#8, 0x82#8]) := by decide
theorem test_decode_encodeFrame :
    decode [0x8B#8, 0x02#8, 0x44#8, 0x31#8, 0x31#8, 0x33#8, 0x4E#8, 0x41#8] =
      .ok (.encodeFrame [0x44#8, 0x31#8] (some ⟨0x31#8, 0x33#8, 0x4E#8, 0x41#8⟩)) := by decide
theorem test_decode_cmdClimate : decode [0x8C#8] = .ok .cmdClimate := by decide
theorem test_decode_cmdSwing : decode [0x8D#8] = .ok .cmdSwing := by decide
theorem test_decode_queryContinue : decode [0x8E#8] = .ok .queryContinue := by decide
theorem test_decode_queryStart : decode [0x8F#8] = .ok .queryStart := by decide
theorem test_decode_idleNothing : decode [0x90#8] = .ok .idleNothing := by decide
theorem test_decode_ackEcho : decode [0x91#8, 0x06#8] = .ok .ackEcho := by decide
theorem test_decode_rxQackAck : decode [0x92#8, 0x01#8, 0x06#8] = .ok .rxQackAck := by decide
theorem test_decode_rxQackNak : decode [0x93#8, 0x01#8, 0x15#8] = .ok .rxQackNak := by decide
theorem test_decode_rxQackOther : decode [0x94#8, 0x01#8, 0x02#8] = .ok (.rxQackOther 0x02#8) := by decide
theorem test_decode_rxCackAck : decode [0x95#8, 0x02#8, 0x06#8] = .ok .rxCackAck := by decide
theorem test_decode_rxCackNak : decode [0x96#8, 0x02#8, 0x15#8] = .ok .rxCackNak := by decide
theorem test_decode_rxCackOther : decode [0x97#8, 0x02#8, 0xFF#8] = .ok (.rxCackOther 0xFF#8) := by decide
theorem test_decode_rxQstxStx : decode [0x98#8, 0x03#8, 0x02#8] = .ok .rxQstxStx := by decide
theorem test_decode_rxQstxAck : decode [0x99#8, 0x03#8, 0x06#8] = .ok .rxQstxAck := by decide
theorem test_decode_rxQstxOther : decode [0x9A#8, 0x03#8, 0x15#8] = .ok (.rxQstxOther 0x15#8) := by decide
theorem test_decode_rxQetxData : decode [0x9B#8, 0x04#8, 0x47#8] = .ok (.rxQetxData 0x47#8) := by decide
theorem test_decode_rxQetxEtxEmpty : decode [0x9C#8, 0x04#8, 0x03#8] = .ok .rxQetxEtxEmpty := by decide
theorem test_decode_rxQetxEtxGood : decode [0x9D#8, 0x04#8, 0x03#8] = .ok .rxQetxEtxGood := by decide
theorem test_decode_rxQetxEtxBad : decode [0x9E#8, 0x04#8, 0x03#8] = .ok .rxQetxEtxBad := by decide
theorem test_decode_rxDispatch : decode [0x9F#8, 0x15#8] = .ok (.rxDispatch 0x15#8) := by decide
theorem test_decode_rxNotConsumed : decode [0xA0#8, 0x06#8] = .ok (.rxNotConsumed 0x06#8) := by decide
theorem test_decode_sendFrameBusy :
    decode [0xA1#8, 0x02#8, 0x46#8, 0x35#8] = .ok (.sendFrameBusy [0x46#8, 0x35#8] none) := by decide
theorem test_decode_sendFrameOk : decode [0xA2#8, 0x01#8, 0x41#8] = .ok (.sendFrameOk [0x41#8] none) := by decide
theorem test_decode_sendFrameBadLen :
    decode [0xA3#8, 0x03#8, 0x46#8, 0x31#8, 0x30#8] =
      .ok (.sendFrameBadLen [0x46#8, 0x31#8, 0x30#8] none) := by decide
theorem test_decode_serviceIdle : decode [0xA4#8] = .ok .serviceIdle := by decide
theorem test_decode_serviceCooldown : decode [0xA5#8] = .ok .serviceCooldown := by decide
theorem test_decode_serviceReceive : decode [0xA6#8] = .ok .serviceReceive := by decide
theorem test_decode_serviceTimeout : decode [0xA7#8] = .ok .serviceTimeout := by decide
theorem test_decode_complete : decode [0xA8#8, 0x04#8, 0x01#8] = .ok (.complete .error .error) := by decide
theorem test_decode_rspBasic :
    decode [0xA9#8, 0x35#8, 0x32#8, 0x32#8, 0x2D#8] =
      .ok (.rspBasic [0x35#8, 0x32#8, 0x32#8, 0x2D#8]) := by decide
theorem test_decode_rspSwing :
    decode [0xAA#8, 0x35#8, 0x32#8, 0x32#8, 0x2D#8] =
      .ok (.rspSwing [0x35#8, 0x32#8, 0x32#8, 0x2D#8]) := by decide
theorem test_decode_rspTempCombined :
    decode [0xAB#8, 0x35#8, 0x32#8, 0x32#8, 0x2D#8] =
      .ok (.rspTempCombined [0x35#8, 0x32#8, 0x32#8, 0x2D#8]) := by decide
theorem test_decode_rspVersion :
    decode [0xAC#8, 0x35#8, 0x32#8, 0x32#8, 0x2D#8] =
      .ok (.rspVersion [0x35#8, 0x32#8, 0x32#8, 0x2D#8]) := by decide
theorem test_decode_rspFanMode :
    decode [0xAD#8, 0x35#8, 0x32#8, 0x32#8, 0x2D#8] =
      .ok (.rspFanMode [0x35#8, 0x32#8, 0x32#8, 0x2D#8]) := by decide
theorem test_decode_rspTempInside :
    decode [0xAE#8, 0x35#8, 0x32#8, 0x32#8, 0x2D#8] =
      .ok (.rspTempInside [0x35#8, 0x32#8, 0x32#8, 0x2D#8]) := by decide
theorem test_decode_rspTempCoil :
    decode [0xAF#8, 0x35#8, 0x32#8, 0x32#8, 0x2D#8] =
      .ok (.rspTempCoil [0x35#8, 0x32#8, 0x32#8, 0x2D#8]) := by decide
theorem test_decode_rspTempOutside :
    decode [0xB0#8, 0x35#8, 0x32#8, 0x32#8, 0x2D#8] =
      .ok (.rspTempOutside [0x35#8, 0x32#8, 0x32#8, 0x2D#8]) := by decide
theorem test_decode_rspFanRpm :
    decode [0xB1#8, 0x35#8, 0x32#8, 0x32#8, 0x2D#8] =
      .ok (.rspFanRpm [0x35#8, 0x32#8, 0x32#8, 0x2D#8]) := by decide
theorem test_decode_rspCompressor :
    decode [0xB2#8, 0x35#8, 0x32#8, 0x32#8, 0x2D#8] =
      .ok (.rspCompressor [0x35#8, 0x32#8, 0x32#8, 0x2D#8]) := by decide
theorem test_decode_rspSetpoint :
    decode [0xB3#8, 0x35#8, 0x32#8, 0x32#8, 0x2D#8] =
      .ok (.rspSetpoint [0x35#8, 0x32#8, 0x32#8, 0x2D#8]) := by decide
theorem test_decode_rspSwingAngle :
    decode [0xB4#8, 0x35#8, 0x32#8, 0x32#8, 0x2D#8] =
      .ok (.rspSwingAngle [0x35#8, 0x32#8, 0x32#8, 0x2D#8]) := by decide
theorem test_decode_echoClimate : decode [0xB5#8] = .ok .echoClimate := by decide
theorem test_decode_echoSwing : decode [0xB6#8] = .ok .echoSwing := by decide
theorem test_decode_rspUnknown :
    decode [0xB7#8, 0x02#8, 0x53#8, 0x58#8, 0x31#8] =
      .ok (.rspUnknown [0x53#8, 0x58#8] [0x31#8]) := by decide
theorem test_decode_rspShort :
    decode [0xB8#8, 0x02#8, 0x47#8, 0x31#8, 0x31#8] = .ok (.rspShort [0x47#8, 0x31#8] [0x31#8]) := by decide
theorem test_decode_parseAckBare : decode [0xB9#8] = .ok .parseAckBare := by decide
theorem test_decode_parseAckSplit : decode [0xBA#8] = .ok .parseAckSplit := by decide
theorem test_decode_advance : decode [0xBB#8] = .ok .advance := by decide
theorem test_decode_dispatch :
    decode [0xBC#8, 0x02#8, 0x47#8, 0x35#8, 0x31#8, 0x3F#8] =
      .ok (.dispatch [0x47#8, 0x35#8] [0x31#8, 0x3F#8]) := by decide
theorem test_decode_send : decode [0xBD#8, 0x02#8, 0x46#8, 0x31#8] = .ok (.send [0x46#8, 0x31#8] none) := by decide
theorem test_decode_txNext : decode [0xBE#8] = .ok .txNext := by decide
theorem test_decode_handleNakQuery : decode [0xBF#8] = .ok .handleNakQuery := by decide
theorem test_decode_handleNakCommand : decode [0xC0#8] = .ok .handleNakCommand := by decide
theorem test_decode_reactError : decode [0xC1#8] = .ok .reactError := by decide
theorem test_decode_reactTimeout : decode [0xC2#8] = .ok .reactTimeout := by decide
theorem test_decode_reactBusy : decode [0xC3#8] = .ok .reactBusy := by decide
theorem test_decode_hostInit :
    decode [0xC4#8, 0x02#8, 0x46#8, 0x31#8, 0x01#8, 0x41#8] =
      .ok (.hostInit [[0x46#8, 0x31#8], [0x41#8]]) := by decide
theorem test_decode_tick : decode [0xC5#8, 0x00#8, 0x00#8, 0x03#8, 0xE8#8] = .ok (.tick 1000#32) := by decide
theorem test_decode_requestClimateChange :
    decode [0xC6#8, 0x01#8, 0x04#8, 0x00#8, 0xDE#8, 0x03#8] =
      .ok (.requestClimateChange true .heat 222#16 .speed2) := by decide
theorem test_decode_requestSwingChange :
    decode [0xC7#8, 0x01#8, 0x00#8] = .ok (.requestSwingChange true false) := by decide
theorem test_decode_requestRefresh : decode [0xC8#8] = .ok .requestRefresh := by decide
theorem test_decode_setDiagMode : decode [0xC9#8, 0x01#8] = .ok (.setDiagMode true) := by decide
theorem test_decode_isReady : decode [0xCA#8] = .ok .isReady := by decide
theorem test_decode_snapshot : decode [0xCB#8] = .ok .snapshot := by decide

/-! ## The decoder rejects by name -/

theorem test_reject_empty : decode [] = .error .emptyWord := by decide
theorem test_reject_unknown_byte : decode [0x41#8] = .error .unknownByte := by decide
theorem test_reject_unknown_operation : decode [0xCC#8] = .error .unknownByte := by decide
theorem test_reject_length : decode [0xA4#8, 0x00#8] = .error .badLength := by decide
theorem test_reject_no_etx : decode [0x02#8, 0x41#8, 0x41#8, 0x04#8] = .error .badFrame := by decide
theorem test_reject_checksum : decode [0x02#8, 0x41#8, 0x42#8, 0x03#8] = .error .badChecksum := by decide
theorem test_reject_operand : decode [0xC7#8, 0x02#8, 0x00#8] = .error .badOperand := by decide
theorem test_reject_operand_mode : decode [0xC6#8, 0x01#8, 0x06#8, 0x00#8, 0x00#8, 0x00#8] = .error .badOperand := by decide
theorem test_reject_ill_formed : decode [0x94#8, 0x01#8, 0x06#8] = .error .illFormed := by decide

/-! ## The opcode table's numbering (log 3) -/

theorem test_table_q2 : decodeTableWord 40 0x0246317703 = some (.frameQ2 0x46#8 0x31#8) := by decide
theorem test_table_q1 : decodeTableWord 32 0x02000003 = some (.frameQ1 0#8) := by decide
theorem test_table_ack : decodeTableWord 16 0x0106 = some .ack := by decide
theorem test_withFetchWord : field State.rx (step (base.withFetchWord 8 0x15)) = some [0x15#8] := by decide
theorem test_step_arrival : field State.rx (step { base with inputs := [.rxByte 0x06#8] }) = some [0x06#8] := by decide
theorem test_step_rejected :
    refusal (step { base with inputs := [.row [0xFF#8]] }) = some (.undecodable .unknownByte) := by decide
/-- R266: the host has no port to `service`. -/
theorem test_step_no_port : refusal (step { base with inputs := [.call [0xA4#8]] }) = some .noPort := by decide
theorem test_step_call : field State.now (step { base with inputs := [.call [0xC5#8, 0#8, 0#8, 3#8, 0xE8#8]] }) = some 1000#32 := by
  decide
/-- 93 U6: two equal codes. -/
theorem test_step_parameters :
    refusal (step { base with cfg := { base.cfg with rcSwing := base.cfg.rcBasic } }) = some .parameters := by decide
/-- D17: a code with `ETX`. -/
theorem test_config_etx : Config.wf { Config.s21 with rcBasic := [0x47#8, 0x03#8] } = false := by decide

/-! ## Codecs (95_test_vectors.md, section 3) -/

theorem test_setpoint_S1 : setpointByte 250 = 78#8 := by decide
theorem test_setpoint_S3 : setpointByte 253 = 79#8 := by decide
theorem test_setpoint_S12 : setpointByte (-3) = 28#8 := by decide
theorem test_setpoint_S14 : setpointByte (-140) = 1#8 := by decide
theorem test_number_N9 : bytesToNum [0x35#8, 0x32#8, 0x32#8, 0x2D#8] = -225 := by decide
theorem test_number_N16 : bytesToNum [0x31#8, 0x32#8, 0x33#8, 0x2D#8, 0x39#8] = -321 := by decide
theorem test_number_N18 : bytesToNum [0x35#8, 0x20#8, 0x32#8] = 45 := by decide
theorem test_combined_K2 : tempOfF9Byte 1#8 = -640 := by decide
theorem test_combined_K9 : tempOfF9Byte 0x9C#8 = 140 := by decide

/-! ## One step of each operation -/

theorem test_stx : field State.rx (exec .stx base) = some [0x02#8] := by decide
theorem test_etx : field State.rx (exec .etx base) = some [0x03#8] := by decide
theorem test_enq : field State.rx (exec .enq base) = some [0x05#8] := by decide
theorem test_ack : field State.rx (exec .ack base) = some [0x06#8] := by decide
theorem test_nak : field State.rx (exec .nak base) = some [0x15#8] := by decide
/-- V-F5. -/
theorem test_frameQ1 : field State.tx (exec (.frameQ1 0x41#8) base) = some [0x02#8, 0x41#8, 0x41#8, 0x03#8] := by decide
/-- V-F1. -/
theorem test_frameQ2 :
    field State.tx (exec (.frameQ2 0x46#8 0x31#8) base) = some [0x02#8, 0x46#8, 0x31#8, 0x77#8, 0x03#8] := by decide
theorem test_frameC1 :
    field State.ftState (exec (.frameC1 0x41#8 ⟨0x31#8, 0x33#8, 0x4E#8, 0x41#8⟩) base) = some .commandAck := by decide
/-- V-F6: the escaped checksum on transmit. -/
theorem test_frameC2 :
    field State.tx (exec (.frameC2 0x44#8 0x31#8 ⟨0x31#8, 0x33#8, 0xE8#8, 0x41#8⟩) base) =
      some [0x02#8, 0x44#8, 0x31#8, 0x31#8, 0x33#8, 0xE8#8, 0x41#8, 0x05#8, 0x03#8] := by decide
theorem test_frameR : field State.rx (exec (.frameR [0x47#8]) base) = some [0x02#8, 0x47#8, 0x03#8] := by decide
/-- V-T17: a frame the peer means with 0x03 inside arrives whole. -/
theorem test_decode_frameR_etx :
    decode [0x89#8, 0x02#8, 0x47#8, 0x39#8, 0xB0#8, 0x03#8, 0x30#8, 0x30#8, 0x93#8, 0x03#8] =
      .ok (.frameR [0x47#8, 0x39#8, 0xB0#8, 0x03#8, 0x30#8, 0x30#8, 0x93#8]) := by decide
/-- V-C6. -/
theorem test_checksum : field State.ret (exec (.checksum [0x80#8, 0x82#8]) base) = some (.byte 0x05#8) := by decide
/-- V-C7. -/
theorem test_checksum_etx : field State.ret (exec (.checksum [0x80#8, 0x83#8]) base) = some (.byte 0x03#8) := by decide
/-- V-F8. -/
theorem test_encodeFrame :
    field State.ret (exec (.encodeFrame codeD1 (some ⟨0x31#8, 0x34#8, 0x48#8, 0x34#8⟩)) base) =
      some (.bytes [0x02#8, 0x44#8, 0x31#8, 0x31#8, 0x34#8, 0x48#8, 0x34#8, 0x56#8, 0x03#8]) := by decide
/-- V-F8: 222 goes out rounded to 220. -/
theorem test_cmdClimate :
    field State.tx (exec .cmdClimate { base with
      activateClimate := true
      pending := { powerOn := true, mode := .heat, setpoint := 222#16, fan := .speed2, swingV := false, swingH := false } }) =
      some [0x02#8, 0x44#8, 0x31#8, 0x31#8, 0x34#8, 0x48#8, 0x34#8, 0x56#8, 0x03#8] := by decide
/-- V-W3. -/
theorem test_cmdSwing :
    field State.tx (exec .cmdSwing { base with
      activateSwingMode := true, pending := { base.pending with swingH := true } }) =
      some [0x02#8, 0x44#8, 0x35#8, 0x32#8, 0x3F#8, 0x30#8, 0x30#8, 0x4A#8, 0x03#8] := by decide
/-- Arm 3 sends the query at the cursor, not the first. -/
theorem test_queryContinue :
    field State.tx (exec .queryContinue (scanning [codeF1, codeF5] 1)) =
      some [0x02#8, 0x46#8, 0x35#8, 0x7B#8, 0x03#8] := by decide
/-- V-H8. -/
theorem test_queryStart_prunes :
    field State.pool (exec .queryStart { scanning [codeF1, codeF9, codeRH, codeRa] 4 with
      refreshRequested := true, supportRH := true, supportRa := true }) = some [codeF1, codeRH, codeRa] := by decide
/-- V-H9. -/
theorem test_queryStart_one_sensor :
    field State.pool (exec .queryStart { scanning [codeF1, codeF9] 2 with refreshRequested := true, supportRH := true }) =
      some [codeF1, codeF9] := by decide
theorem test_idleNothing : field State.tx (exec .idleNothing (scanning [codeF1] 1)) = some [] := by decide
theorem test_idleNothing_not_selected :
    refusal (exec .idleNothing (scanning [codeF1] 0)) = some .notSelected := by decide
theorem test_ackEcho : field State.tx (exec .ackEcho (linked .queryEtx [0x47#8, 0x47#8])) = some [0x06#8] := by decide
theorem test_rxQackAck : field State.ftState (exec .rxQackAck (linked .queryAck [])) = some .queryStx := by decide
/-- V-T7. -/
theorem test_rxQackNak : field State.ftCool (exec .rxQackNak (linked .queryAck [])) = some 50 := by decide
/-- V-T8. -/
theorem test_rxQackOther : field State.ftCool (exec (.rxQackOther 0x02#8) (linked .queryAck [])) = some 200 := by decide
/-- V-T20. -/
theorem test_rxCackAck : field State.ret (exec .rxCackAck (linked .commandAck [])) = some (.result .ack) := by decide
/-- V-T21. -/
theorem test_rxCackNak : field State.ret (exec .rxCackNak (linked .commandAck [])) = some (.result .nak) := by decide
/-- V-T22. -/
theorem test_rxCackOther : field State.ftCool (exec (.rxCackOther 0xFF#8) (linked .commandAck [])) = some 200 := by decide
theorem test_rxQstxStx : field State.ftState (exec .rxQstxStx (linked .queryStx [])) = some .queryEtx := by decide
/-- V-T11. -/
theorem test_rxQstxAck : field State.ftState (exec .rxQstxAck (linked .queryStx [])) = some .queryStx := by decide
/-- V-T9. -/
theorem test_rxQstxOther : field State.ret (exec (.rxQstxOther 0x15#8) (linked .queryStx [])) = some (.result .error) := by decide
/-- V-T15: the seventh byte is appended. -/
theorem test_rxQetxData :
    field State.ftBuf (exec (.rxQetxData 0x2B#8) (linked .queryEtx bodyG1)) = some (bodyG1 ++ [0x2B#8]) := by decide
/-- V-T15: the eighth overflows. -/
theorem test_rxQetxData_overflow :
    field State.ret (exec (.rxQetxData 0x30#8) (linked .queryEtx (bodyG1 ++ [0x2B#8]))) = some (.result .error) := by decide
/-- V-T16. -/
theorem test_rxQetxEtxEmpty : field State.ftCool (exec .rxQetxEtxEmpty (linked .queryEtx [])) = some 200 := by decide
/-- V-T13: the checksum byte is stripped. -/
theorem test_rxQetxEtxGood :
    field State.ftBuf (exec .rxQetxEtxGood (linked .queryEtx (bodyG1 ++ [0x6B#8]))) = some bodyG1 := by decide
/-- V-C9: the escaped checksum on receive. -/
theorem test_rxQetxEtxGood_escape :
    field State.tx (exec .rxQetxEtxGood (linked .queryEtx [0x47#8, 0xBB#8, 0x05#8])) = some [0x06#8] := by decide
/-- V-T14. -/
theorem test_rxQetxEtxBad :
    field State.tx (exec .rxQetxEtxBad (linked .queryEtx (bodyG1 ++ [0x6A#8]))) = some [] := by decide
/-- V-C11: a trailing STX value never validates. -/
theorem test_rxQetxEtxBad_stx :
    field State.ret (exec .rxQetxEtxBad (linked .queryEtx [0x47#8, 0xBB#8, 0x02#8])) = some (.result .error) := by decide
/-- V-T12. -/
theorem test_rxDispatch : field State.ftBuf (exec (.rxDispatch 0x47#8) (linked .queryEtx [])) = some [0x47#8] := by decide
theorem test_rxNotConsumed :
    field State.rx (exec (.rxNotConsumed 0x06#8) { linked .cooldown [] with rx := [0x06#8] }) = some [0x06#8] := by decide
/-- V-T1. -/
theorem test_sendFrameBusy : field State.ret (exec (.sendFrameBusy codeF5 none) (linked .queryStx [])) = some (.result .busy) := by
  decide
/-- V-T4: the busy test comes first. -/
theorem test_sendFrameBusy_long :
    field State.ret (exec (.sendFrameBusy [0x46#8, 0x31#8, 0x30#8] none) (linked .cooldown [])) = some (.result .busy) := by
  decide
/-- A successful send flushes `rx`. -/
theorem test_sendFrameOk : field State.rx (exec (.sendFrameOk codeF1 none) { base with rx := [0x99#8] }) = some [] := by decide
/-- V-T2. -/
theorem test_sendFrameBadLen :
    field State.ret (exec (.sendFrameBadLen [0x46#8, 0x31#8, 0x30#8] none) base) = some (.result .error) := by decide
/-- V-T3. -/
theorem test_sendFrameBadLen_empty : field State.tx (exec (.sendFrameBadLen [] none) base) = some [] := by decide
theorem test_serviceIdle : field State.ret (exec .serviceIdle base) = some (.result .idle) := by decide
/-- P1: the cooldown boundary 129, 130. -/
theorem test_serviceCooldown_before :
    field State.ret (exec .serviceCooldown (timed .cooldown 129#32 80#32 50)) = some (.result .busy) := by decide
theorem test_serviceCooldown_after :
    field State.ftState (exec .serviceCooldown (timed .cooldown 130#32 80#32 50)) = some .idle := by decide
/-- V-T6. -/
theorem test_serviceReceive :
    field State.ftTLast (exec .serviceReceive { timed .queryAck 20#32 0#32 0 with rx := [0x06#8] }) = some 20#32 := by decide
/-- V-T18: what stands after the frame stays in `rx`. -/
theorem test_serviceReceive_rest :
    field State.rx (exec .serviceReceive { timed .queryAck 10#32 0#32 0 with
      rx := [0x06#8, 0x02#8, 0x47#8, 0x39#8, 0x80#8, 0x03#8, 0x30#8, 0x30#8, 0x63#8, 0x03#8] }) =
      some [0x30#8, 0x30#8, 0x63#8, 0x03#8] := by decide
/-- V-T5, and across the wrap of the clock. -/
theorem test_serviceTimeout : field State.ftState (exec .serviceTimeout (timed .queryAck 250#32 0#32 0)) = some .idle := by decide
theorem test_serviceTimeout_wrap :
    field State.ret (exec .serviceTimeout (timed .queryStx 249#32 0xFFFFFFFF#32 0)) = some (.result .timeout) := by decide
theorem test_complete : field State.ftState (exec (.complete .nak .turnaround) base) = some .cooldown := by decide
/-- V-D1. -/
theorem test_rspBasic :
    field State.active (exec (.rspBasic [0x31#8, 0x33#8, 0x4E#8, 0x41#8]) base) =
      some { powerOn := true, mode := .cool, setpoint := 250#16, fan := .auto, swingV := false, swingH := false } := by decide
/-- V-D5: an unknown mode byte keeps the mode. -/
theorem test_rspBasic_mode :
    field (fun t => t.active.mode) (exec (.rspBasic [0x31#8, 0x41#8, 0x30#8, 0x33#8]) base) = some .disabled := by decide
/-- V-D6. -/
theorem test_rspSwing :
    field (fun t => (t.active.swingV, t.active.swingH)) (exec (.rspSwing [0x31#8, 0x3F#8]) base) = some (true, false) := by decide
/-- V-D9: inside first, outside second. -/
theorem test_rspTempCombined :
    field (fun t => (t.tempInside, t.tempOutside)) (exec (.rspTempCombined [0xB0#8, 0x72#8]) base) =
      some (240#16, BitVec.ofInt 16 (-70)) := by decide
/-- V-D10. -/
theorem test_rspVersion :
    field State.active (exec (.rspVersion [0x30#8, 0x30#8, 0x30#8, 0x30#8]) base) = some base.active := by decide
/-- V-D3. -/
theorem test_rspFanMode :
    field (fun t => (t.active.fan, t.supportRG)) (exec (.rspFanMode [0x35#8]) base) = some (.speed3, true) := by decide
/-- V-D4. -/
theorem test_rspFanMode_unknown : field State.supportRG (exec (.rspFanMode [0x39#8]) base) = some false := by decide
/-- V-D11. -/
theorem test_rspTempInside :
    field (fun t => (t.tempInside, t.supportRH)) (exec (.rspTempInside [0x35#8, 0x33#8, 0x32#8, 0x2B#8]) base) =
      some (235#16, true) := by decide
/-- V-D12. -/
theorem test_rspTempCoil :
    field State.tempCoil (exec (.rspTempCoil [0x30#8, 0x38#8, 0x31#8, 0x2B#8]) base) = some 180#16 := by decide
/-- V-D13. -/
theorem test_rspTempOutside :
    field (fun t => (t.tempOutside, t.supportRa)) (exec (.rspTempOutside [0x35#8, 0x36#8, 0x30#8, 0x2D#8]) base) =
      some (BitVec.ofInt 16 (-65), true) := by decide
/-- V-D15. -/
theorem test_rspFanRpm : field State.fanRpm (exec (.rspFanRpm [0x30#8, 0x39#8, 0x30#8]) base) = some 900#16 := by decide
/-- V-D17. -/
theorem test_rspCompressor :
    field (fun t => (t.compressorHz, t.ready.compressor)) (exec (.rspCompressor [0x35#8, 0x33#8, 0x30#8]) base) =
      some (35#16, true) := by decide
/-- V-D18. -/
theorem test_rspSetpoint :
    field (fun t => t.active.setpoint) (exec (.rspSetpoint [0x30#8, 0x35#8, 0x32#8]) base) = some 250#16 := by decide
/-- V-D19. -/
theorem test_rspSwingAngle :
    field State.swingVerticalAngle (exec (.rspSwingAngle [0x35#8, 0x34#8, 0x30#8, 0x2B#8]) base) = some 45#16 := by decide
/-- V-D20: the setpoint is copied unrounded. -/
theorem test_echoClimate :
    field (fun t => t.active.setpoint) (exec .echoClimate { base with pending := { base.pending with setpoint := 222#16 } }) =
      some 222#16 := by decide
/-- V-D21. -/
theorem test_echoSwing :
    field (fun t => (t.active.swingV, t.activateSwingMode)) (exec .echoSwing { base with
      activateSwingMode := true, pending := { base.pending with swingV := true } }) = some (true, false) := by decide
/-- V-D24, in diagnostic mode: the first time two events. -/
theorem test_rspUnknown :
    field State.report (exec (.rspUnknown codeSX [0x31#8, 0x32#8, 0x33#8, 0x2B#8]) { base with diagMode := true }) =
      some [.logUnknown codeSX [0x31#8, 0x32#8, 0x33#8, 0x2B#8] (some 321),
        .logChanged codeSX none [0x31#8, 0x32#8, 0x33#8, 0x2B#8]] := by decide
/-- V-D24: the second time one. -/
theorem test_rspUnknown_again :
    field State.report (exec (.rspUnknown codeSX [0x31#8]) { base with diagMode := true, diffCache := [(codeSX, [0x31#8])] }) =
      some [.logUnknown codeSX [0x31#8] none] := by decide
/-- V-D22. -/
theorem test_rspShort : field (fun t => t.ready.basic) (exec (.rspShort [0x47#8, 0x31#8] [0x31#8, 0x33#8]) base) = some false := by
  decide
theorem test_parseAckBare :
    field State.activateClimate (exec .parseAckBare { base with txCmd := codeD1, activateClimate := true }) = some false := by decide
/-- V-D25: the code of the answer counts, not the query's; the cursor moves. -/
theorem test_parseAckSplit :
    field (fun t => (t.cursor, t.ready.basic)) (exec .parseAckSplit { scanning [codeF1, codeF5] 1 with
      txCmd := codeF5, ftBuf := bodyG1 }) = some (2, true) := by decide
/-- V-D23: a 1-byte query code splits off one byte. -/
theorem test_parseAckSplit_one :
    field State.report (exec .parseAckSplit { base with
      txCmd := [0x41#8], ftBuf := [0x47#8, 0x31#8, 0x32#8, 0x33#8, 0x34#8], diagMode := true
      diffCache := [([0x47#8], [0x31#8, 0x32#8, 0x33#8, 0x34#8])] }) =
      some [.logUnknown [0x47#8] [0x31#8, 0x32#8, 0x33#8, 0x34#8] (some 321)] := by decide
theorem test_advance : field State.cursor (exec .advance (scanning [codeF1, codeF5] 1)) = some 2 := by decide
theorem test_advance_end : field State.cursor (exec .advance (scanning [codeF1, codeF5] 2)) = some 2 := by decide
theorem test_dispatch :
    field (fun t => t.ready.swing) (exec (.dispatch [0x47#8, 0x35#8] [0x31#8]) base) = some true := by decide
theorem test_send : field State.txCmd (exec (.send codeF5 none) base) = some codeF5 := by decide
theorem test_send_busy : field State.txCmd (exec (.send codeF5 none) (linked .cooldown [])) = some [0#8, 0#8] := by decide
/-- E8: the climate command goes before the query of the running scan. -/
theorem test_txNext :
    field State.txCmd (exec .txNext { scanning [codeF1, codeF5] 1 with activateClimate := true, activateSwingMode := true }) =
      some codeD1 := by decide
/-- P3: the middle entry goes, the cursor keeps its number. -/
theorem test_handleNakQuery :
    field (fun t => (t.pool, t.cursor)) (exec .handleNakQuery { scanning [codeF9, codeF5, codeRH] 1 with txCmd := codeF5 }) =
      some ([codeF9, codeRH], 1) := by decide
/-- P2: a refused command is applied locally. -/
theorem test_handleNakCommand :
    field (fun t => (t.active.swingH, t.pool)) (exec .handleNakCommand { scanning [codeF1, codeF5] 1 with
      txCmd := codeD5, pending := { base.pending with swingH := true } }) = some (true, [codeF1, codeF5]) := by decide
/-- V-X1. -/
theorem test_reactError :
    field (fun t => (t.cursor, t.activateClimate, t.activateSwingMode, t.refreshRequested))
      (exec .reactError { scanning [codeF1, codeF5, codeF9] 1 with activateClimate := true, activateSwingMode := true }) =
      some (3, false, false, true) := by decide
/-- V-X2. -/
theorem test_reactTimeout :
    field (fun t => (t.report, t.activateClimate)) (exec .reactTimeout { base with activateClimate := true }) =
      some ([.tickResult .timeout], true) := by decide
/-- V-X3. -/
theorem test_reactBusy : field State.report (exec .reactBusy base) = some [] := by decide
theorem test_hostInit : field (fun t => (t.pool, t.cursor)) (exec (.hostInit [codeF1]) base) = some ([codeF1], 1) := by decide
/-- R171 (d). -/
theorem test_hostInit_refused : refusal (exec (.hostInit [codeF1, codeD1]) base) = some .querySet := by decide
/-- P1: the answer is decoded and acknowledged in one tick. -/
theorem test_tick :
    field (fun t => (t.cursor, t.tx, t.report)) (exec (.tick 80#32) { scanning [codeF1] 0 with
      ftState := .queryEtx, ftBuf := [0x47#8, 0x31#8, 0x31#8, 0x33#8], ftTLast := 60#32, txCmd := codeF1
      rx := [0x4E#8, 0x41#8, 0x6B#8, 0x03#8] }) = some (1, [0x06#8], [.tickResult .ack]) := by decide
/-- V-T5: a timeout is reported once. -/
theorem test_tick_timeout :
    field (fun t => (t.ftState, t.report)) (exec (.tick 250#32) (linked .queryAck [])) = some (.idle, [.tickResult .timeout]) := by
  decide
theorem test_requestClimateChange :
    field (fun t => (t.pending.setpoint, t.pending.fan, t.activateClimate))
      (exec (.requestClimateChange true .cool 250#16 .speed5) base) = some (250#16, .speed5, true) := by decide
theorem test_requestSwingChange :
    field (fun t => (t.pending.swingV, t.pending.swingH)) (exec (.requestSwingChange true false) base) = some (true, false) := by
  decide
theorem test_requestRefresh : field State.refreshRequested (exec .requestRefresh (scanning [codeF1] 0)) = some true := by decide
theorem test_setDiagMode : field State.diagMode (exec (.setDiagMode true) base) = some true := by decide
theorem test_setDiagMode_absent :
    refusal (exec (.setDiagMode true) { base with cfg := { base.cfg with diagPresent := false } }) = some .absent := by decide
/-- V-H14. -/
theorem test_isReady :
    field State.ret (exec .isReady { base with ready := { basic := true, swing := true, compressor := false } }) =
      some (.bool false) := by decide
/-- The temperature and the swing angle returned are those of the registers. -/
theorem test_snapshot :
    field (fun t => match t.ret with | .snap x => some (x.tempCoil, x.swingVerticalAngle) | _ => none)
      (exec .snapshot { base with tempCoil := 180#16, swingVerticalAngle := 45#16 }) = some (some (180#16, 45#16)) := by decide


/-! ## Witnesses: a concrete state and operands that meet a statement's hypotheses, for each of its clauses -/

theorem witness_framesOfferedToTheLink_idle : base.ftState = .idle := by decide
theorem witness_framesOfferedToTheLink_busy : (linked .cooldown []).ftState ≠ .idle := by decide
theorem witness_sendFrameThreeCases_busy : (linked .queryEtx []).ftState ≠ .idle := by decide
theorem witness_sendFrameThreeCases_one :
    base.ftState = .idle ∧ 1 ≤ [0x41#8].length ∧ [0x41#8].length ≤ 2 := by decide
theorem witness_sendFrameThreeCases_two : base.ftState = .idle ∧ 1 ≤ codeF1.length ∧ codeF1.length ≤ 2 := by decide
theorem witness_sendFrameThreeCases_empty :
    base.ftState = .idle ∧ (([] : Code).length = 0 ∨ 2 < ([] : Code).length) := by decide
theorem witness_sendFrameThreeCases_three :
    base.ftState = .idle ∧ ([0x46#8, 0x31#8, 0x30#8].length = 0 ∨ 2 < [0x46#8, 0x31#8, 0x30#8].length) := by decide
theorem witness_serviceWithoutReadingBytes_idle : base.ftState = .idle := by decide
theorem witness_serviceWithoutReadingBytes_cooled :
    (timed .cooldown 130#32 80#32 50).ftState = .cooldown ∧
      (timed .cooldown 130#32 80#32 50).ftCool ≤
        ((timed .cooldown 130#32 80#32 50).now - (timed .cooldown 130#32 80#32 50).ftTLast).toNat := by decide
theorem witness_serviceWithoutReadingBytes_cooling :
    (timed .cooldown 129#32 80#32 50).ftState = .cooldown ∧
      ((timed .cooldown 129#32 80#32 50).now - (timed .cooldown 129#32 80#32 50).ftTLast).toNat <
        (timed .cooldown 129#32 80#32 50).ftCool := by decide
theorem witness_serviceWithoutReadingBytes_timeout :
    (timed .queryStx 250#32 0#32 0).ftState ≠ .idle ∧ (timed .queryStx 250#32 0#32 0).ftState ≠ .cooldown ∧
      (timed .queryStx 250#32 0#32 0).cfg.tResponse ≤
        ((timed .queryStx 250#32 0#32 0).now - (timed .queryStx 250#32 0#32 0).ftTLast).toNat := by decide

/-- Receiving, one unit before the response timer runs out. -/
def receiving (st : CommState) (buf rx : List Byte) : State := { linked st buf with now := 249#32, rx := rx }

theorem witness_serviceConsumesRxByteByByte_empty :
    (receiving .queryAck [] []).ftState ≠ .idle ∧ (receiving .queryAck [] []).ftState ≠ .cooldown ∧ 0 < (receiving .queryAck [] []).cfg.tResponse ∧
      ((receiving .queryAck [] []).now - (receiving .queryAck [] []).ftTLast).toNat < (receiving .queryAck [] []).cfg.tResponse ∧ (receiving .queryAck [] []).rx = [] := by decide
theorem witness_serviceConsumesRxByteByByte_goOn :
    (receiving .queryAck [] [0x06#8, 0x02#8]).ftState ≠ .idle ∧ (receiving .queryAck [] [0x06#8, 0x02#8]).ftState ≠ .cooldown ∧ 0 < (receiving .queryAck [] [0x06#8, 0x02#8]).cfg.tResponse ∧
      ((receiving .queryAck [] [0x06#8, 0x02#8]).now - (receiving .queryAck [] [0x06#8, 0x02#8]).ftTLast).toNat < (receiving .queryAck [] [0x06#8, 0x02#8]).cfg.tResponse ∧ (receiving .queryAck [] [0x06#8, 0x02#8]).rx = 0x06#8 :: [0x02#8] ∧
      field State.ret (exec (.rxDispatch 0x06#8) { receiving .queryAck [] [0x06#8, 0x02#8] with rx := [0x02#8], ftTLast := 249#32 }) = some .goOn := by decide
theorem witness_serviceConsumesRxByteByByte_terminal :
    (receiving .queryAck [] [0x15#8, 0x02#8]).ftState ≠ .idle ∧ (receiving .queryAck [] [0x15#8, 0x02#8]).ftState ≠ .cooldown ∧ 0 < (receiving .queryAck [] [0x15#8, 0x02#8]).cfg.tResponse ∧
      ((receiving .queryAck [] [0x15#8, 0x02#8]).now - (receiving .queryAck [] [0x15#8, 0x02#8]).ftTLast).toNat < (receiving .queryAck [] [0x15#8, 0x02#8]).cfg.tResponse ∧ (receiving .queryAck [] [0x15#8, 0x02#8]).rx = 0x15#8 :: [0x02#8] ∧
      field State.ret (exec (.rxDispatch 0x15#8) { receiving .queryAck [] [0x15#8, 0x02#8] with rx := [0x02#8], ftTLast := 249#32 }) = some (.result .nak) := by decide
theorem witness_queryAckBytes :
    (linked .queryAck []).ftState = .queryAck ∧ 0x05#8 ≠ 0x06#8 ∧ 0x05#8 ≠ 0x15#8 := by decide
theorem witness_commandAckBytes :
    (linked .commandAck []).ftState = .commandAck ∧ 0x14#8 ≠ 0x06#8 ∧ 0x14#8 ≠ 0x15#8 := by decide
theorem witness_queryStxBytes :
    (linked .queryStx []).ftState = .queryStx ∧ 0x03#8 ≠ 0x02#8 ∧ 0x03#8 ≠ 0x06#8 := by decide
theorem witness_queryEtxDataByte_six :
    (linked .queryEtx bodyG1).ftState = .queryEtx ∧ 0x02#8 ≠ 0x03#8 ∧ (linked .queryEtx bodyG1).ftBuf.length < 7 := by decide
theorem witness_queryEtxDataByte_seven :
    (linked .queryEtx (bodyG1 ++ [0x6B#8])).ftState = .queryEtx ∧ 0x04#8 ≠ 0x03#8 ∧
      7 ≤ (linked .queryEtx (bodyG1 ++ [0x6B#8])).ftBuf.length := by decide
theorem witness_queryEtxFrameEnd_empty :
    (linked .queryEtx []).ftState = .queryEtx ∧ (linked .queryEtx []).ftBuf = [] := by decide
theorem witness_queryEtxFrameEnd_good :
    (linked .queryEtx [0x00#8]).ftState = .queryEtx ∧ (linked .queryEtx [0x00#8]).ftBuf = [] ++ [0x00#8] ∧
      0x00#8 = checksum [] := by decide
theorem witness_queryEtxFrameEnd_bad :
    (linked .queryEtx [0x02#8, 0x02#8]).ftState = .queryEtx ∧
      (linked .queryEtx [0x02#8, 0x02#8]).ftBuf = [0x02#8] ++ [0x02#8] ∧ 0x02#8 ≠ checksum [0x02#8] := by decide
theorem witness_rxDispatchRunsTheSelectedHandler_idle : base.ftState = .idle ∨ base.ftState = .cooldown := by decide
theorem witness_rxDispatchRunsTheSelectedHandler_cooldown :
    (linked .cooldown []).ftState = .idle ∨ (linked .cooldown []).ftState = .cooldown := by decide
theorem witness_completeAndAckEcho :
    (linked .queryEtx [0x02#8, 0x05#8]).ftState = .queryEtx ∧
      (linked .queryEtx [0x02#8, 0x05#8]).ftBuf = [0x02#8] ++ [checksum [0x02#8]] := by decide
theorem witness_fanModeResponse_decodes : base.cfg.fanOfByte 0x37#8 = some .speed5 := by decide
theorem witness_fanModeResponse_does_not : base.cfg.fanOfByte 0x38#8 = none := by decide
theorem witness_numericResponses_plus :
    (235 : Int) = (if [0x2B#8].head? = some 0x2D#8 then -1 else 1) *
      ((((0x35#8).toNat : Int) - 48) + 10 * (((0x33#8).toNat : Int) - 48) + 100 * (((0x32#8).toNat : Int) - 48)) := by decide
theorem witness_numericResponses_minus :
    (-65 : Int) = (if [0x2D#8].head? = some 0x2D#8 then -1 else 1) *
      ((((0x35#8).toNat : Int) - 48) + 10 * (((0x36#8).toNat : Int) - 48) + 100 * (((0x30#8).toNat : Int) - 48)) := by decide
theorem witness_unknownCode_off :
    codeSX ∉ base.cfg.codes ∧ ¬ (base.cfg.diagPresent = true ∧ base.diagMode = true) := by decide

/-- The machine in diagnostic mode with a diff cache. -/
def watching (m : List (Code × List Byte)) : State := { base with diagMode := true, diffCache := m }

theorem witness_unknownCode_same :
    codeSX ∉ (watching [(codeSX, [0x31#8])]).cfg.codes ∧
      ((watching [(codeSX, [0x31#8])]).cfg.diagPresent = true ∧ (watching [(codeSX, [0x31#8])]).diagMode = true) ∧
      (none : Option Int) = (if 3 ≤ [0x31#8].length then some (bytesToNum [0x31#8]) else none) ∧
      cacheLookup codeSX (watching [(codeSX, [0x31#8])]).diffCache = some [0x31#8] := by decide
theorem witness_unknownCode_changed :
    codeSX ∉ (watching []).cfg.codes ∧ ((watching []).cfg.diagPresent = true ∧ (watching []).diagMode = true) ∧
      some (321 : Int) = (if 3 ≤ [0x31#8, 0x32#8, 0x33#8].length then some (bytesToNum [0x31#8, 0x32#8, 0x33#8]) else none) ∧
      cacheLookup codeSX (watching []).diffCache ≠ some [0x31#8, 0x32#8, 0x33#8] := by decide
theorem witness_shortPayloadSkipsTheHandler :
    base.cfg.codes.Nodup ∧ [0x31#8, 0x33#8, 0x4E#8].length < familyMin .basic := by decide
theorem witness_dispatchSelectsByCode_min :
    base.cfg.codes.Nodup ∧ familyMin .basic ≤ [0x31#8, 0x33#8, 0x4E#8, 0x41#8].length := by decide
theorem witness_dispatchSelectsByCode_short :
    base.cfg.codes.Nodup ∧ ([] : List Byte).length < familyMin .swing := by decide
theorem witness_dispatchSelectsByCode_unknown : base.cfg.codes.Nodup ∧ codeF1 ∉ base.cfg.codes := by decide
theorem witness_parseAckBareDispatchesTheSentCode : base.ftBuf = [] := by decide
theorem witness_parseAckSplitAdvancesThenDispatches :
    (linked .cooldown [0x47#8]).ftBuf ≠ [] ∧
      1 = min (linked .cooldown [0x47#8]).txCmd.length (linked .cooldown [0x47#8]).ftBuf.length := by decide
theorem witness_advanceStopsAtEndOfPool_below :
    (scanning [codeF1, codeF5] 1).cursor < (scanning [codeF1, codeF5] 1).pool.length := by decide
theorem witness_advanceStopsAtEndOfPool_end :
    (scanning [codeF1, codeF5] 2).pool.length ≤ (scanning [codeF1, codeF5] 2).cursor := by decide
theorem witness_sendRecordsOnlySentCodes_sent :
    base.ftState = .idle ∧ 1 ≤ codeF1.length ∧ codeF1.length ≤ 2 := by decide
theorem witness_sendRecordsOnlySentCodes_busy : (linked .commandAck []).ftState ≠ .idle := by decide
theorem witness_sendRecordsOnlySentCodes_length :
    base.ftState = .idle ∧ ([0x46#8, 0x31#8, 0x30#8].length = 0 ∨ 2 < [0x46#8, 0x31#8, 0x30#8].length) := by decide

/-- The machine with a climate change pending: on, cool, 252 tenths, fan auto. -/
def climatePending (st : CommState) : State :=
  { linked st [] with
    activateClimate := true
    pending := { powerOn := true, mode := .cool, setpoint := 252#16, fan := .auto, swingV := false, swingH := false } }

theorem witness_climateArmSendsTheBasicStateCommand_idle :
    (climatePending .idle).activateClimate = true ∧ (climatePending .idle).cfg.cmdClimate.length = 2 ∧ (250 : Int) % 5 = 0 ∧
      (climatePending .idle).pending.setpoint.toInt - 2 ≤ 250 ∧ 250 ≤ (climatePending .idle).pending.setpoint.toInt + 2 ∧
      [0x31#8, 0x33#8, 0x4E#8, 0x41#8] = [if (climatePending .idle).pending.powerOn then 0x31#8 else 0x30#8,
        (climatePending .idle).cfg.modeByte (climatePending .idle).pending.mode, BitVec.ofInt 8 (Int.tdiv (250 + 3) 5 + 28),
        (climatePending .idle).cfg.fanByte (climatePending .idle).pending.fan] ∧ (climatePending .idle).ftState = .idle := by decide
theorem witness_climateArmSendsTheBasicStateCommand_busy :
    (climatePending .cooldown).activateClimate = true ∧ (climatePending .cooldown).cfg.cmdClimate.length = 2 ∧ (250 : Int) % 5 = 0 ∧
      (climatePending .cooldown).pending.setpoint.toInt - 2 ≤ 250 ∧ 250 ≤ (climatePending .cooldown).pending.setpoint.toInt + 2 ∧
      [0x31#8, 0x33#8, 0x4E#8, 0x41#8] = [if (climatePending .cooldown).pending.powerOn then 0x31#8 else 0x30#8,
        (climatePending .cooldown).cfg.modeByte (climatePending .cooldown).pending.mode, BitVec.ofInt 8 (Int.tdiv (250 + 3) 5 + 28),
        (climatePending .cooldown).cfg.fanByte (climatePending .cooldown).pending.fan] ∧ (climatePending .cooldown).ftState ≠ .idle := by decide

/-- The machine with a swing change pending. -/
def swingPending (st : CommState) (v h : Bool) : State :=
  { linked st [] with activateSwingMode := true, pending := { base.pending with swingV := v, swingH := h } }

theorem witness_swingArmSendsTheSwingCommand_neither :
    (swingPending .idle false false).activateClimate = false ∧ (swingPending .idle false false).activateSwingMode = true ∧
      (swingPending .idle false false).cfg.cmdSwing.length = 2 ∧
      [0x30#8, 0x30#8, 0x30#8, 0x30#8] = (match (swingPending .idle false false).pending.swingV, (swingPending .idle false false).pending.swingH with
        | false, false => [0x30#8, 0x30#8, 0x30#8, 0x30#8]
        | true, false => [0x31#8, 0x3F#8, 0x30#8, 0x30#8]
        | false, true => [0x32#8, 0x3F#8, 0x30#8, 0x30#8]
        | true, true => [0x37#8, 0x3F#8, 0x30#8, 0x30#8]) ∧ (swingPending .idle false false).ftState = .idle := by decide
theorem witness_swingArmSendsTheSwingCommand_vertical :
    (swingPending .idle true false).activateClimate = false ∧ (swingPending .idle true false).activateSwingMode = true ∧
      (swingPending .idle true false).cfg.cmdSwing.length = 2 ∧
      [0x31#8, 0x3F#8, 0x30#8, 0x30#8] = (match (swingPending .idle true false).pending.swingV, (swingPending .idle true false).pending.swingH with
        | false, false => [0x30#8, 0x30#8, 0x30#8, 0x30#8]
        | true, false => [0x31#8, 0x3F#8, 0x30#8, 0x30#8]
        | false, true => [0x32#8, 0x3F#8, 0x30#8, 0x30#8]
        | true, true => [0x37#8, 0x3F#8, 0x30#8, 0x30#8]) ∧ (swingPending .idle true false).ftState = .idle := by decide
theorem witness_swingArmSendsTheSwingCommand_horizontal :
    (swingPending .idle false true).activateClimate = false ∧ (swingPending .idle false true).activateSwingMode = true ∧
      (swingPending .idle false true).cfg.cmdSwing.length = 2 ∧
      [0x32#8, 0x3F#8, 0x30#8, 0x30#8] = (match (swingPending .idle false true).pending.swingV, (swingPending .idle false true).pending.swingH with
        | false, false => [0x30#8, 0x30#8, 0x30#8, 0x30#8]
        | true, false => [0x31#8, 0x3F#8, 0x30#8, 0x30#8]
        | false, true => [0x32#8, 0x3F#8, 0x30#8, 0x30#8]
        | true, true => [0x37#8, 0x3F#8, 0x30#8, 0x30#8]) ∧ (swingPending .idle false true).ftState = .idle := by decide
theorem witness_swingArmSendsTheSwingCommand_both :
    (swingPending .idle true true).activateClimate = false ∧ (swingPending .idle true true).activateSwingMode = true ∧
      (swingPending .idle true true).cfg.cmdSwing.length = 2 ∧
      [0x37#8, 0x3F#8, 0x30#8, 0x30#8] = (match (swingPending .idle true true).pending.swingV, (swingPending .idle true true).pending.swingH with
        | false, false => [0x30#8, 0x30#8, 0x30#8, 0x30#8]
        | true, false => [0x31#8, 0x3F#8, 0x30#8, 0x30#8]
        | false, true => [0x32#8, 0x3F#8, 0x30#8, 0x30#8]
        | true, true => [0x37#8, 0x3F#8, 0x30#8, 0x30#8]) ∧ (swingPending .idle true true).ftState = .idle := by decide
theorem witness_swingArmSendsTheSwingCommand_busy :
    (swingPending .queryAck true true).activateClimate = false ∧ (swingPending .queryAck true true).activateSwingMode = true ∧
      (swingPending .queryAck true true).cfg.cmdSwing.length = 2 ∧
      [0x37#8, 0x3F#8, 0x30#8, 0x30#8] = (match (swingPending .queryAck true true).pending.swingV, (swingPending .queryAck true true).pending.swingH with
        | false, false => [0x30#8, 0x30#8, 0x30#8, 0x30#8]
        | true, false => [0x31#8, 0x3F#8, 0x30#8, 0x30#8]
        | false, true => [0x32#8, 0x3F#8, 0x30#8, 0x30#8]
        | true, true => [0x37#8, 0x3F#8, 0x30#8, 0x30#8]) ∧ (swingPending .queryAck true true).ftState ≠ .idle := by decide
theorem witness_continueArmResendsTheCurrentQuery_idle :
    (scanning [codeF1, codeF5] 1).activateClimate = false ∧
      (scanning [codeF1, codeF5] 1).activateSwingMode = false ∧
      (scanning [codeF1, codeF5] 1).cursor < (scanning [codeF1, codeF5] 1).pool.length ∧
      (scanning [codeF1, codeF5] 1).pool[(scanning [codeF1, codeF5] 1).cursor]? = some codeF5 ∧
      1 ≤ codeF5.length ∧ codeF5.length ≤ 2 ∧ (scanning [codeF1, codeF5] 1).ftState = .idle := by decide
theorem witness_continueArmResendsTheCurrentQuery_busy :
    ({ scanning [codeF1, codeF5] 1 with ftState := .cooldown : State }).activateClimate = false ∧
      ({ scanning [codeF1, codeF5] 1 with ftState := .cooldown : State }).activateSwingMode = false ∧
      ({ scanning [codeF1, codeF5] 1 with ftState := .cooldown : State }).cursor < ({ scanning [codeF1, codeF5] 1 with ftState := .cooldown : State }).pool.length ∧
      ({ scanning [codeF1, codeF5] 1 with ftState := .cooldown : State }).pool[({ scanning [codeF1, codeF5] 1 with ftState := .cooldown : State }).cursor]? = some codeF5 ∧
      1 ≤ codeF5.length ∧ codeF5.length ≤ 2 ∧ ({ scanning [codeF1, codeF5] 1 with ftState := .cooldown : State }).ftState ≠ .idle := by decide

/-- The machine about to start a scan. -/
def starting (pool : List Code) (rh ra : Bool) : State :=
  { scanning pool pool.length with refreshRequested := true, supportRH := rh, supportRa := ra }

theorem witness_startArmPrunesAndRestartsTheScan_pruned_empty :
    (starting [codeF9] true true).activateClimate = false ∧ (starting [codeF9] true true).activateSwingMode = false ∧
      (starting [codeF9] true true).cursor = (starting [codeF9] true true).pool.length ∧ (starting [codeF9] true true).refreshRequested = true ∧
      (starting [codeF9] true true).ftState = .idle ∧
      [] = (if (starting [codeF9] true true).supportRH = true ∧ (starting [codeF9] true true).supportRa = true then
        (starting [codeF9] true true).pool.erase (starting [codeF9] true true).cfg.qTempCombined else (starting [codeF9] true true).pool) ∧
      ([] : List Code) = [] := by decide
theorem witness_startArmPrunesAndRestartsTheScan_not_idle :
    ({ starting [codeF1, codeF9] true true with ftState := .cooldown : State }).activateClimate = false ∧ ({ starting [codeF1, codeF9] true true with ftState := .cooldown : State }).activateSwingMode = false ∧
      ({ starting [codeF1, codeF9] true true with ftState := .cooldown : State }).cursor = ({ starting [codeF1, codeF9] true true with ftState := .cooldown : State }).pool.length ∧ ({ starting [codeF1, codeF9] true true with ftState := .cooldown : State }).refreshRequested = true ∧
      ({ starting [codeF1, codeF9] true true with ftState := .cooldown : State }).ftState ≠ .idle ∧
      [codeF1] = (if ({ starting [codeF1, codeF9] true true with ftState := .cooldown : State }).supportRH = true ∧ ({ starting [codeF1, codeF9] true true with ftState := .cooldown : State }).supportRa = true then
        ({ starting [codeF1, codeF9] true true with ftState := .cooldown : State }).pool.erase ({ starting [codeF1, codeF9] true true with ftState := .cooldown : State }).cfg.qTempCombined else ({ starting [codeF1, codeF9] true true with ftState := .cooldown : State }).pool) ∧
      [codeF1] = codeF1 :: [] ∧ 1 ≤ codeF1.length ∧ codeF1.length ≤ 2 := by decide
theorem witness_startArmPrunesAndRestartsTheScan_pruned :
    (starting [codeF1, codeF9] true true).activateClimate = false ∧ (starting [codeF1, codeF9] true true).activateSwingMode = false ∧
      (starting [codeF1, codeF9] true true).cursor = (starting [codeF1, codeF9] true true).pool.length ∧ (starting [codeF1, codeF9] true true).refreshRequested = true ∧
      (starting [codeF1, codeF9] true true).ftState = .idle ∧
      [codeF1] = (if (starting [codeF1, codeF9] true true).supportRH = true ∧ (starting [codeF1, codeF9] true true).supportRa = true then
        (starting [codeF1, codeF9] true true).pool.erase (starting [codeF1, codeF9] true true).cfg.qTempCombined else (starting [codeF1, codeF9] true true).pool) ∧
      [codeF1] = codeF1 :: [] ∧ 1 ≤ codeF1.length ∧ codeF1.length ≤ 2 := by decide
theorem witness_startArmPrunesAndRestartsTheScan_whole :
    (starting [codeF9] true false).activateClimate = false ∧ (starting [codeF9] true false).activateSwingMode = false ∧
      (starting [codeF9] true false).cursor = (starting [codeF9] true false).pool.length ∧ (starting [codeF9] true false).refreshRequested = true ∧
      (starting [codeF9] true false).ftState = .idle ∧
      [codeF9] = (if (starting [codeF9] true false).supportRH = true ∧ (starting [codeF9] true false).supportRa = true then
        (starting [codeF9] true false).pool.erase (starting [codeF9] true false).cfg.qTempCombined else (starting [codeF9] true false).pool) ∧
      [codeF9] = codeF9 :: [] ∧ 1 ≤ codeF9.length ∧ codeF9.length ≤ 2 := by decide
theorem witness_selectorFiresOneArmByPriority :
    (scanning [codeF1] 1).activateClimate = false ∧ (scanning [codeF1] 1).activateSwingMode = false ∧
      (scanning [codeF1] 1).pool.length ≤ (scanning [codeF1] 1).cursor ∧ (scanning [codeF1] 1).refreshRequested = false := by decide

/-- The machine in a scan with a code sent. -/
def sent (pool : List Code) (cursor : Nat) (cmd : Code) (buf : List Byte) : State :=
  { scanning pool cursor with txCmd := cmd, ftBuf := buf }

theorem witness_nakRemovesTheCurrentQuery_last :
    (sent [codeF1, codeF5] 1 codeF5 []).cursor < (sent [codeF1, codeF5] 1 codeF5 []).pool.length ∧
      (sent [codeF1, codeF5] 1 codeF5 []).pool[(sent [codeF1, codeF5] 1 codeF5 []).cursor]? =
        some (sent [codeF1, codeF5] 1 codeF5 []).txCmd ∧ (sent [codeF1, codeF5] 1 codeF5 []).pool.Nodup := by decide
theorem witness_nakOfACommandAppliesItLocally_climate :
    ¬ ((sent [codeF1] 0 codeD1 []).cursor < (sent [codeF1] 0 codeD1 []).pool.length ∧
        (sent [codeF1] 0 codeD1 []).pool[(sent [codeF1] 0 codeD1 []).cursor]? = some (sent [codeF1] 0 codeD1 []).txCmd) ∧
      (sent [codeF1] 0 codeD1 []).ftBuf = [] ∧ (sent [codeF1] 0 codeD1 []).cfg.codes.Nodup ∧ (sent [codeF1] 0 codeD1 []).txCmd = (sent [codeF1] 0 codeD1 []).cfg.cmdClimate := by decide
theorem witness_nakOfACommandAppliesItLocally_swing :
    ¬ ((sent [codeF1] 0 codeD5 []).cursor < (sent [codeF1] 0 codeD5 []).pool.length ∧
        (sent [codeF1] 0 codeD5 []).pool[(sent [codeF1] 0 codeD5 []).cursor]? = some (sent [codeF1] 0 codeD5 []).txCmd) ∧
      (sent [codeF1] 0 codeD5 []).ftBuf = [] ∧ (sent [codeF1] 0 codeD5 []).cfg.codes.Nodup ∧ (sent [codeF1] 0 codeD5 []).txCmd = (sent [codeF1] 0 codeD5 []).cfg.cmdSwing := by decide
theorem witness_nakOfACommandAppliesItLocally_end :
    ¬ ((sent [codeF1] 1 codeF1 []).cursor < (sent [codeF1] 1 codeF1 []).pool.length ∧
        (sent [codeF1] 1 codeF1 []).pool[(sent [codeF1] 1 codeF1 []).cursor]? = some (sent [codeF1] 1 codeF1 []).txCmd) ∧
      (sent [codeF1] 1 codeF1 []).ftBuf = [] := by decide
theorem witness_nakOfACommandAppliesItLocally_buffer :
    ¬ ((sent [codeF1] 1 codeF1 bodyG1).cursor < (sent [codeF1] 1 codeF1 bodyG1).pool.length ∧
        (sent [codeF1] 1 codeF1 bodyG1).pool[(sent [codeF1] 1 codeF1 bodyG1).cursor]? = some (sent [codeF1] 1 codeF1 bodyG1).txCmd) ∧
      (sent [codeF1] 1 codeF1 bodyG1).ftBuf ≠ [] := by decide
theorem witness_initializeEstablishesResetState : base.cfg.querySetOk [codeF1, [0x41#8]] = true := by decide

/-- The legality of a query set that `InitializeRefusesIllegalQuerySets` speaks of. -/
abbrev legalSet (q : List Code) : Prop :=
  (∀ e ∈ q, 1 ≤ e.length ∧ e.length ≤ 2) ∧ q.Nodup ∧ q.length ≤ base.cfg.poolMax ∧
    (∀ e ∈ q, e ≠ base.cfg.cmdClimate ∧ e ≠ base.cfg.cmdSwing) ∧ ∀ e ∈ q, (0x03#8 : Byte) ∉ e

theorem witness_initializeRefusesIllegalQuerySets_legal : (legalSet [] ↔ legalSet []) ∧ legalSet [] := by decide
theorem witness_initializeRefusesIllegalQuerySets_length :
    (legalSet [[]] ↔ legalSet [[]]) ∧ ¬ legalSet [[]] := by decide
theorem witness_initializeRefusesIllegalQuerySets_repeated : ¬ legalSet [codeF1, codeF1] := by decide
theorem witness_initializeRefusesIllegalQuerySets_size : ¬ legalSet (List.replicate 17 codeF1) := by decide
theorem witness_initializeRefusesIllegalQuerySets_command : ¬ legalSet [codeD5] := by decide
theorem witness_initializeRefusesIllegalQuerySets_etx : ¬ legalSet [[0x46#8, 0x03#8]] := by decide
theorem witness_diagnosticSwitchAndReads_present : base.cfg.diagPresent = true := by decide

/-- The machine with inputs waiting. -/
def fed (ins : List Input) : State := { base with inputs := ins }


/-- The machine without diagnostics. -/
def bare (ins : List Input) : State := { fed ins with cfg := { base.cfg with diagPresent := false } }

theorem witness_stepRunsTheDecodedOperation_call :
    (fed [.call [0xC8#8]]).cfg.wf = true ∧ (fed [.call [0xC8#8]]).inputs = .call [0xC8#8] :: [] ∧
      decode [0xC8#8] = .ok .requestRefresh ∧ hostOperation .requestRefresh = true := by decide
theorem witness_stepRunsTheDecodedOperation_row :
    (fed [.row [0xA4#8]]).cfg.wf = true ∧ (fed [.row [0xA4#8]]).inputs = .row [0xA4#8] :: [] ∧
      decode [0xA4#8] = .ok .serviceIdle := by decide
theorem witness_stepRunsTheDecodedOperation_rejected :
    (fed [.call []]).cfg.wf = true ∧
      ((fed [.call []]).inputs = .call [] :: [] ∨ (fed [.call []]).inputs = .row [] :: []) ∧ decode [] = .error .emptyWord := by decide
theorem witness_stepRunsTheDecodedOperation_rejected_row :
    (fed [.row []]).cfg.wf = true ∧
      ((fed [.row []]).inputs = .call [] :: [] ∨ (fed [.row []]).inputs = .row [] :: []) ∧ decode [] = .error .emptyWord := by decide
theorem witness_stepRunsTheDecodedOperation_byte :
    (fed [.rxByte 0xFF#8]).cfg.wf = true ∧ (fed [.rxByte 0xFF#8]).inputs = .rxByte 0xFF#8 :: [] := by decide
theorem witness_stepRunsTheDecodedOperation_nothing : base.cfg.wf = true ∧ base.inputs = [] := by decide
theorem witness_stepRunsTheDecodedOperation_parameters :
    ({ base with cfg := { base.cfg with tError := base.cfg.tTurnaround } } : State).cfg.wf = false := by decide
theorem witness_hostPortOffersTheEightOperations_internal :
    (fed [.call [0xA4#8]]).cfg.wf = true ∧ (fed [.call [0xA4#8]]).inputs = .call [0xA4#8] :: [] ∧
      decode [0xA4#8] = .ok .serviceIdle ∧ hostOperation .serviceIdle = false := by decide
theorem witness_hostPortOffersTheEightOperations_host :
    (fed [.call [0xCB#8]]).cfg.wf = true ∧ (fed [.call [0xCB#8]]).inputs = .call [0xCB#8] :: [] ∧
      decode [0xCB#8] = .ok .snapshot ∧ hostOperation .snapshot = true := by decide
theorem witness_hostPortOffersTheEightOperations_querySet :
    (fed [.call [0xC4#8, 0#8]]).cfg.wf = true ∧ (fed [.call [0xC4#8, 0#8]]).inputs = .call [0xC4#8, 0#8] :: [] ∧
      decode [0xC4#8, 0#8] = .ok (.hostInit [[]]) ∧ base.cfg.querySetOk [[]] = false := by decide
theorem witness_hostPortOffersTheEightOperations_absent :
    (bare [.call [0xC9#8, 1#8]]).cfg.wf = true ∧ (bare [.call [0xC9#8, 1#8]]).inputs = .call [0xC9#8, 1#8] :: [] ∧
      decode [0xC9#8, 1#8] = .ok (.setDiagMode true) ∧ (bare [.call [0xC9#8, 1#8]]).cfg.diagPresent = false := by decide

theorem witness_hostPortOffersTheEightOperations_run :
    HardwareRun (fed [.call [0xC8#8], .rxByte 0x06#8]) ∧ ∃ t, step (fed [.call [0xC8#8], .rxByte 0x06#8]) = .next t :=
  ⟨by unfold HardwareRun; decide, _, rfl⟩

theorem witness_decodeOfEncode :
    Instr.wf (.frameR [0x02#8, 0x03#8, 0xFF#8, 0#8, 0#8, 0#8, 0#8]) = true ∧ Instr.wf (.rxQetxData 0xFF#8) = true := by decide
theorem witness_encodeOfDecode : decode [0x02#8, 0x02#8, 0x05#8, 0x03#8] = .ok (.frameQ1 0x02#8) := by decide

/-- A legal state that is not the reset state: a query has been sent and its cursor is in the pool. -/
def asking : State := { sent [codeF1, codeF5] 1 codeF5 [] with ftState := .queryAck, inputs := [.rxByte 0x06#8] }

theorem witness_stepKeepsLegalStates : Inv asking ∧ ∃ t, step asking = .next t :=
  ⟨⟨by decide, by decide, by decide, by decide, by decide, by decide, by decide, by decide, by decide, by decide, by decide⟩,
    _, rfl⟩

theorem witness_initialStatesAreLegal : Config.doc.wf = true := by decide

/-- A frame waiting in `rx` with a byte after it. -/
def framed (code : Code) (p : Option Payload) : State :=
  { receiving .queryStx [] (encodeFrame code p ++ [0x99#8]) with ftTLast := 0#32 }

theorem witness_responseFrameRoundTrip_long :
    1 ≤ (codeD1 : Code).length ∧ (codeD1 : Code).length ≤ 2 ∧
      (0x03#8 : Byte) ∉ codeD1 ++ payloadBytes (some ⟨0x31#8, 0x33#8, 0xE8#8, 0x41#8⟩) ++ [checksum (codeD1 ++ payloadBytes (some ⟨0x31#8, 0x33#8, 0xE8#8, 0x41#8⟩))] ∧
      (framed codeD1 (some ⟨0x31#8, 0x33#8, 0xE8#8, 0x41#8⟩)).ftState = .queryStx ∧ (framed codeD1 (some ⟨0x31#8, 0x33#8, 0xE8#8, 0x41#8⟩)).ftBuf = [] ∧
      ((framed codeD1 (some ⟨0x31#8, 0x33#8, 0xE8#8, 0x41#8⟩)).now - (framed codeD1 (some ⟨0x31#8, 0x33#8, 0xE8#8, 0x41#8⟩)).ftTLast).toNat < (framed codeD1 (some ⟨0x31#8, 0x33#8, 0xE8#8, 0x41#8⟩)).cfg.tResponse ∧
      (framed codeD1 (some ⟨0x31#8, 0x33#8, 0xE8#8, 0x41#8⟩)).rx = encodeFrame codeD1 (some ⟨0x31#8, 0x33#8, 0xE8#8, 0x41#8⟩) ++ [0x99#8] := by decide
theorem witness_responseFrameRoundTrip_short :
    1 ≤ ([0x41#8] : Code).length ∧ ([0x41#8] : Code).length ≤ 2 ∧
      (0x03#8 : Byte) ∉ [0x41#8] ++ payloadBytes none ++ [checksum ([0x41#8] ++ payloadBytes none)] ∧
      (framed [0x41#8] none).ftState = .queryStx ∧ (framed [0x41#8] none).ftBuf = [] ∧
      ((framed [0x41#8] none).now - (framed [0x41#8] none).ftTLast).toNat < (framed [0x41#8] none).cfg.tResponse ∧
      (framed [0x41#8] none).rx = encodeFrame [0x41#8] none ++ [0x99#8] := by decide
theorem witness_checksumEscapeLaw_transmit : 2 = ([0x80#8, 0x82#8].map BitVec.toNat).sum % 256 := by decide
theorem witness_checksumEscapeLaw_receive_escaped :
    2 = ([0x47#8, 0xBB#8].map BitVec.toNat).sum % 256 ∧ (linked .queryEtx ([0x47#8, 0xBB#8] ++ [0x05#8])).ftState = .queryEtx ∧
      (linked .queryEtx ([0x47#8, 0xBB#8] ++ [0x05#8])).ftBuf = [0x47#8, 0xBB#8] ++ [0x05#8] := by decide
theorem witness_checksumEscapeLaw_receive_enq :
    5 = ([0x47#8, 0xBE#8].map BitVec.toNat).sum % 256 ∧ (linked .queryEtx ([0x47#8, 0xBE#8] ++ [0x05#8])).ftState = .queryEtx ∧
      (linked .queryEtx ([0x47#8, 0xBE#8] ++ [0x05#8])).ftBuf = [0x47#8, 0xBE#8] ++ [0x05#8] := by decide
theorem witness_checksumEscapeLaw_receive_stx :
    2 = ([0x47#8, 0xBB#8].map BitVec.toNat).sum % 256 ∧ (linked .queryEtx ([0x47#8, 0xBB#8] ++ [0x02#8])).ftState = .queryEtx ∧
      (linked .queryEtx ([0x47#8, 0xBB#8] ++ [0x02#8])).ftBuf = [0x47#8, 0xBB#8] ++ [0x02#8] := by decide
theorem witness_numberCodecInverse_low : (-999 : Int) ≤ -999 ∧ (-999 : Int) ≤ 999 := by decide
theorem witness_numberCodecInverse_high : (-999 : Int) ≤ 999 ∧ (999 : Int) ≤ 999 := by decide
theorem witness_setpointCodecRoundTrip_low :
    (0 : Int) % 5 = 0 ∧ (-1 : Int) - 2 ≤ 0 ∧ (0 : Int) ≤ -1 + 2 ∧ (0 : Int) ≤ 0 ∧ (0 : Int) ≤ 1135 := by decide
theorem witness_setpointCodecRoundTrip_high :
    (1135 : Int) % 5 = 0 ∧ (1137 : Int) - 2 ≤ 1135 ∧ (1135 : Int) ≤ 1137 + 2 ∧ (0 : Int) ≤ 1135 ∧ (1135 : Int) ≤ 1135 := by decide
theorem witness_climateCommandBeforeScan_send :
    (climatePending .idle).ftState = .idle ∧ (climatePending .idle).activateClimate = true ∧
      (climatePending .idle).cfg.cmdClimate.length = 2 := by decide

/-- A climate command has been sent and its answer waits. -/
def commanded (b : Byte) : State := { sent [codeF1] 0 codeD1 [] with ftState := .commandAck, rx := [b, 0x99#8] }

theorem witness_climateCommandBeforeScan_acked :
    (commanded 0x06#8).ftState = .commandAck ∧ (commanded 0x06#8).ftBuf = [] ∧
      (commanded 0x06#8).txCmd = (commanded 0x06#8).cfg.cmdClimate ∧ (commanded 0x06#8).cfg.codes.Nodup ∧
      (249#32 - (commanded 0x06#8).ftTLast).toNat < (commanded 0x06#8).cfg.tResponse ∧ (commanded 0x06#8).rx = 0x06#8 :: [0x99#8] ∧
      (0x06#8 = 0x06#8 ∨ (0x06#8 = 0x15#8 ∧ (commanded 0x06#8).pool[(commanded 0x06#8).cursor]? ≠ some (commanded 0x06#8).txCmd)) := by decide
theorem witness_climateCommandBeforeScan_refused :
    (commanded 0x15#8).ftState = .commandAck ∧ (commanded 0x15#8).ftBuf = [] ∧
      (commanded 0x15#8).txCmd = (commanded 0x15#8).cfg.cmdClimate ∧ (commanded 0x15#8).cfg.codes.Nodup ∧
      (249#32 - (commanded 0x15#8).ftTLast).toNat < (commanded 0x15#8).cfg.tResponse ∧ (commanded 0x15#8).rx = 0x15#8 :: [0x99#8] ∧
      (0x15#8 = 0x06#8 ∨ (0x15#8 = 0x15#8 ∧ (commanded 0x15#8).pool[(commanded 0x15#8).cursor]? ≠ some (commanded 0x15#8).txCmd)) := by decide

theorem witness_fanGateHoldsForEver_fan : ∃ t u : State,
    (base.cfg.fanOfByte 0x35#8).isSome = true ∧ [Instr.tick 0#32].all (fun i => !isInit i) = true ∧
    runAll (.rspFanMode (0x35#8 :: []) :: [.tick 0#32]) base = some t ∧
    exec (.rspBasic [0x31#8, 0x33#8, 0x4E#8, 0x41#8]) t = .next u := ⟨_, _, by decide, by decide, rfl, rfl⟩

theorem witness_fanGateHoldsForEver_temperature : ∃ t : State,
    [Instr.requestRefresh].all (fun i => !isInit i) = true ∧
    runAll (.rspTempInside [0x35#8, 0x33#8, 0x32#8, 0x2B#8] :: [.requestRefresh]) base = some t := ⟨_, by decide, rfl⟩

theorem witness_onlyInitializeForgets : isInit .handleNakQuery = false ∧
    ∃ t, exec .handleNakQuery (sent [codeF1, codeF5] 1 codeF5 []) = .next t := ⟨by decide, _, rfl⟩

theorem witness_onlyInitializeForgets_kept : isInit .txNext = false ∧ mayClearActivation .txNext = false ∧
    (climatePending .idle).activateClimate = true ∧ ∃ t, exec .txNext (climatePending .idle) = .next t :=
  ⟨by decide, by decide, by decide, _, rfl⟩

theorem witness_onlyInitializeForgets_echoed : isInit .echoSwing = false ∧
    (swingPending .idle true false).activateSwingMode = true ∧
    ∃ t, exec .echoSwing (swingPending .idle true false) = .next t ∧ t.activateSwingMode = false ∧
      swingEchoed (swingPending .idle true false) t :=
  ⟨by decide, by decide, _, rfl, rfl, rfl, rfl, rfl⟩

theorem witness_onlyInitializeForgets_aborted : isInit .reactError = false ∧
    (climatePending .idle).activateClimate = true ∧
    ∃ t, exec .reactError (climatePending .idle) = .next t ∧ t.activateClimate = false ∧ scanAborted t :=
  ⟨by decide, by decide, _, rfl, rfl, rfl, rfl, rfl, rfl⟩

theorem witness_transmissionsAreFramesOrOneAck : ∃ t, exec .cmdClimate (climatePending .idle) = .next t := ⟨_, rfl⟩

theorem witness_serviceResultsByLinkState :
    field State.ret (exec (serviceOperation (timed .cooldown 130#32 80#32 50)) (timed .cooldown 130#32 80#32 50)) =
        some (.result .idle) ∧
      field State.ret (exec (serviceOperation (receiving .queryAck [] [0x15#8])) (receiving .queryAck [] [0x15#8])) =
        some (.result .nak) ∧
      field State.ret (exec (serviceOperation (receiving .queryEtx [] [0x03#8])) (receiving .queryEtx [] [0x03#8])) =
        some (.result .error) := by decide
theorem witness_everyByteFailureHasItsCause_cause :
    causeOf (linked .queryEtx (bodyG1 ++ [0x6B#8])) 0x30#8 = some .errOverflow ∧
      causeOf (linked .queryEtx [0x02#8, 0x02#8]) 0x03#8 = some .errChecksum := by decide
theorem witness_everyByteFailureHasItsCause_each :
    causeOf (linked .queryAck []) 0x15#8 = some .nakQuery ∧ causeOf (linked .commandAck []) 0x15#8 = some .nakCommand ∧
      causeOf (linked .queryAck []) 0x14#8 = some .errAckByte ∧ causeOf (linked .commandAck []) 0x05#8 = some .errAckByte ∧
      causeOf (linked .queryStx []) 0x15#8 = some .errStxByte ∧ causeOf (linked .queryEtx []) 0x03#8 = some .errEmptyFrame := by decide
theorem witness_everyByteFailureHasItsCause_none :
    causeOf (linked .queryEtx bodyG1) 0x30#8 = none ∧ causeOf base 0x15#8 = none := by decide
theorem witness_expiredTimersFreeTheLink_timeout :
    (linked .queryEtx [0x47#8]).ftState.receiving = true ∧
      (linked .queryEtx [0x47#8]).cfg.tResponse ≤ (250#32 - (linked .queryEtx [0x47#8]).ftTLast).toNat := by decide
theorem witness_expiredTimersFreeTheLink_cooled :
    (timed .cooldown 0#32 80#32 50).ftState = .cooldown ∧
      (timed .cooldown 0#32 80#32 50).ftCool ≤ (130#32 - (timed .cooldown 0#32 80#32 50).ftTLast).toNat := by decide
theorem witness_expiredTimersFreeTheLink_cooling :
    (timed .cooldown 0#32 80#32 50).ftState = .cooldown ∧
      (129#32 - (timed .cooldown 0#32 80#32 50).ftTLast).toNat < (timed .cooldown 0#32 80#32 50).ftCool := by decide

end Sys2Proof.Tests
end

section
/-! PROOFS. The boundary of the block (00_scope.md): what one step does with each kind of input, and that the host port offers the
eight host operations and no other. -/

namespace Sys2Proof.Scope

open Sys2Proof.Machine Sys2Proof.Safety

/-! ## One step -/

/-- Settles O41: one law of the step for each kind of input. -/
theorem stepRunsTheDecodedOperation : Obligations.StepRunsTheDecodedOperation := by
  intro s
  refine ⟨fun hwf => ⟨fun w rest i hi hd hh => ?call, fun w rest i hi hd => step_row s w rest i hwf hi hd,
    fun w rest e hi hd => step_undecodable s w rest e hwf hi hd, fun b rest hi => step_rxByte s b rest hwf hi,
    step_nothing s hwf⟩, step_parameters s⟩
  case call => rw [step_call s w rest i hwf hi hd, if_pos hh]

/-! ## The host operations -/

/-- The host port has the operations of 00_scope.md R15. -/
theorem hostOperation_iff (i : Instr) :
    hostOperation i = true ↔
      (∃ q, i = .hostInit q) ∨ (∃ t, i = .tick t) ∨ (∃ pw m sp f, i = .requestClimateChange pw m sp f) ∨
      (∃ v h, i = .requestSwingChange v h) ∨ i = .requestRefresh ∨ (∃ b, i = .setDiagMode b) ∨ i = .isReady ∨
      i = .snapshot := by
  constructor
  · intro h
    cases i
    case hostInit | tick | requestClimateChange | requestSwingChange | requestRefresh | setDiagMode | isReady | snapshot =>
      simp
    all_goals cases h
  · rintro (⟨_, rfl⟩ | ⟨_, rfl⟩ | ⟨_, _, _, _, rfl⟩ | ⟨_, _, rfl⟩ | rfl | ⟨_, rfl⟩ | rfl | rfl) <;> rfl

theorem reportResult_inputs (r : Result) (s : State) : (reportResult r s).inputs = s.inputs := by
  cases r <;> rfl

/-- `service`, the reaction to its result and the report take nothing from what is presented. -/
theorem tickOnce_inputs (now : Time) (s : State) : (tickOnce now s).inputs = s.inputs := by
  simp [tickOnce, reportResult_inputs]

theorem exec_setDiagMode_absent (b : Bool) (s : State) (h : s.cfg.diagPresent = false) :
    exec (.setDiagMode b) s = .refused .absent := by
  simp [exec, execSetDiagMode, h]

theorem exec_hostInit_refused (q : List Code) (s : State) (h : s.cfg.querySetOk q = false) :
    exec (.hostInit q) s = .refused .querySet := by
  simp [exec, execHostInit, h]

/-- All that a host operation can answer: it completes and leaves what is presented next, or it is one of the two refusals
(41_scheduler.md R171, R176). -/
theorem exec_hostOperation_cases (i : Instr) (s : State) (hh : hostOperation i = true) :
    (∃ t, exec i s = .next t ∧ t.inputs = s.inputs) ∨
    (∃ q, i = .hostInit q ∧ s.cfg.querySetOk q = false ∧ exec i s = .refused .querySet) ∨
    (∃ b, i = .setDiagMode b ∧ s.cfg.diagPresent = false ∧ exec i s = .refused .absent) := by
  rcases (hostOperation_iff i).mp hh with
    ⟨q, rfl⟩ | ⟨now, rfl⟩ | ⟨pw, m, sp, f, rfl⟩ | ⟨v, h, rfl⟩ | rfl | ⟨b, rfl⟩ | rfl | rfl
  · cases hq : s.cfg.querySetOk q
    · exact .inr (.inl ⟨q, rfl, hq, exec_hostInit_refused q s hq⟩)
    · exact .inl ⟨initialized q s, by simp [exec, execHostInit, hq], rfl⟩
  · exact .inl ⟨_, rfl, tickOnce_inputs now s⟩
  · exact .inl ⟨_, rfl, rfl⟩
  · exact .inl ⟨_, rfl, rfl⟩
  · exact .inl ⟨_, rfl, rfl⟩
  · cases hp : s.cfg.diagPresent
    · exact .inr (.inr ⟨b, rfl, rfl, exec_setDiagMode_absent b s hp⟩)
    · exact .inl ⟨putRet .nothing { s with diagMode := b }, by simp [exec, execSetDiagMode, hp], rfl⟩
  · exact .inl ⟨_, rfl, rfl⟩
  · exact .inl ⟨_, rfl, rfl⟩

/-- The step of a call that the port accepts: the operation completes and the call is taken off, or it is one of the two refusals. -/
theorem step_hostCall_cases (s : State) (w : List Byte) (rest : List Input) (i : Instr) (hwf : s.cfg.wf = true)
    (hi : s.inputs = .call w :: rest) (hd : decode w = .ok i) (hh : hostOperation i = true) :
    (∃ t, step s = .next t ∧ t.inputs = rest) ∨
    (∃ q, i = .hostInit q ∧ s.cfg.querySetOk q = false ∧ step s = .refused .querySet) ∨
    (∃ b, i = .setDiagMode b ∧ s.cfg.diagPresent = false ∧ step s = .refused .absent) := by
  rw [step_call s w rest i hwf hi hd, if_pos hh]
  exact exec_hostOperation_cases i { s with inputs := rest } hh

theorem step_noPort (s : State) (w : List Byte) (rest : List Input) (i : Instr) (hwf : s.cfg.wf = true)
    (hi : s.inputs = .call w :: rest) (hd : decode w = .ok i) (hh : hostOperation i = false) :
    step s = .refused .noPort := by
  simp [step_call s w rest i hwf hi hd, hh]

/-! ## Runs of the hardware -/

theorem hardwareRun_not_row (s : State) (w : List Byte) (rest : List Input) (h : HardwareRun s) :
    s.inputs ≠ .row w :: rest := by
  intro hi
  have hrow : hardwareInput (.row w) = true := h _ (by simp [hi])
  cases hrow

/-- What comes through the ports never asks for a row that the block would not select (log 6). -/
theorem step_ne_notSelected (s : State) (h : HardwareRun s) : step s ≠ .refused .notSelected := by
  cases hwf : s.cfg.wf with
  | false => simp [step_parameters s hwf]
  | true =>
    cases hi : s.inputs with
    | nil => simp [step_nothing s hwf hi]
    | cons x rest =>
      cases x with
      | rxByte b => simp [step_rxByte s b rest hwf hi]
      | row w => exact absurd hi (hardwareRun_not_row s w rest h)
      | call w =>
        cases hd : decode w with
        | error e => simp [step_undecodable s w rest e hwf (.inl hi) hd]
        | ok i =>
          cases hh : hostOperation i with
          | false => simp [step_noPort s w rest i hwf hi hd hh]
          | true =>
            rcases step_hostCall_cases s w rest i hwf hi hd hh with ⟨t, ht, -⟩ | ⟨q, -, -, ht⟩ | ⟨b, -, -, ht⟩ <;>
              simp [ht]

/-- A step of the hardware takes the head of what is presented and adds nothing to it. -/
theorem step_inputs_of_hardwareRun (s t : State) (h : HardwareRun s) (ht : step s = .next t) :
    t.inputs = s.inputs.tail := by
  obtain ⟨hwf, ⟨hi, rfl⟩ | ⟨b, rest, hi, rfl⟩ | ⟨w, rest, i, hi, hd, hh, -⟩ | ⟨w, rest, i, hi, -⟩⟩ := step_next s t ht
  · rw [hi]; rfl
  · rw [hi]; rfl
  · rcases step_hostCall_cases s w rest i hwf hi hd hh with ⟨u, hu, hin⟩ | ⟨q, -, -, hr⟩ | ⟨b, -, -, hr⟩
    · rw [hu] at ht; cases ht
      rw [hin, hi]; rfl
    · rw [hr] at ht; cases ht
    · rw [hr] at ht; cases ht
  · exact absurd hi (hardwareRun_not_row s w rest h)

theorem step_keeps_hardwareRun (s t : State) (h : HardwareRun s) (ht : step s = .next t) : HardwareRun t := by
  intro x hx
  rw [step_inputs_of_hardwareRun s t h ht] at hx
  exact h x (List.mem_of_mem_tail hx)

/-- Settles O42: the port's operations by `hostOperation_iff`, what an accepted call answers by `step_hostCall_cases`, and that a
run of the hardware stays one because a step only takes the head of its inputs. -/
theorem hostPortOffersTheEightOperations : Obligations.HostPortOffersTheEightOperations := by
  intro s
  refine ⟨fun w rest i hwf hi hd => ⟨hostOperation_iff i, step_noPort s w rest i hwf hi hd, fun hh => ?accepted⟩,
    fun b => exec_setDiagMode_absent b s, fun h => ⟨step_ne_notSelected s h, fun t => step_keeps_hardwareRun s t h⟩⟩
  case accepted =>
    rcases step_hostCall_cases s w rest i hwf hi hd hh with ⟨t, ht, -⟩ | hr
    · exact .inl ⟨t, ht⟩
    · exact .inr hr

end Sys2Proof.Scope
end

section
/-! PROOFS. The state of the block (10_state.md): what the initialization leaves in it, that every step keeps a legal state legal, what an
operation can forget, and what it can transmit. -/

namespace Sys2Proof.StateElements

open Sys2Proof.Machine Sys2Proof.Safety

/-! ## What an operation can do -/

/-- All that an operation can do to the state, but for what it returns: the shared operations of the rows of
spec/opcode_table.json, with what the statements need of the condition that selects them. -/
inductive Effect (i : Instr) (s : State) : State → Prop
  | nothing : Effect i s s
  | arrival (bs : List Byte) : Effect i s (rxArrive bs s)
  | frame (code : Code) (p : Option Payload) (h1 : 1 ≤ code.length) (h2 : code.length ≤ maxCmdLen) :
      Effect i s (sendFrameDone code p s)
  | send (code : Code) (p : Option Payload) (h1 : 1 ≤ code.length) (h2 : code.length ≤ maxCmdLen) :
      Effect i s (setTxCmd code (sendFrameDone code p s))
  | byte (b : Byte) : Effect i s (handleRx b s).2
  | ackEcho : Effect i s (ackEcho s)
  | complete (c : CoolSel) : Effect i s (complete c s)
  | service : Effect i s (service s).2
  | response (f : Family) (p : List Byte) (hm : f = .echoClimate ∨ f = .echoSwing → mayClearActivation i = true) :
      Effect i s (runFamily f p s)
  | unknown (code : Code) (p : List Byte) : Effect i s (handleUnknown code p s)
  | dispatch (code : Code) (p : List Byte) (hm : mayClearActivation i = true) : Effect i s (dispatchRsp code p s)
  | advance : Effect i s (advanceCursor s)
  | drop (hq : nakIsQuery s = true) : Effect i s (dropQuery s)
  | reaction (r : Result) (hm : r = .ack ∨ r = .nak ∨ r = .error → mayClearActivation i = true) : Effect i s (react r s)
  | tick (now : Time) (hm : mayClearActivation i = true) : Effect i s (tickOnce now s)
  | request (x : Climate) (climate swing refresh : Bool) (hc : s.activateClimate = true → climate = true)
      (hs : s.activateSwingMode = true → swing = true) :
      Effect i s { s with
        pending := x, activateClimate := climate, activateSwingMode := swing, refreshRequested := refresh }
  | diag (b : Bool) (hp : s.cfg.diagPresent = true) : Effect i s { s with diagMode := b }
  | init (q : List Code) (hi : i = .hostInit q) (hq : s.cfg.querySetOk q = true) : Effect i s (initialized q s)

/-- The state `t` is what an effect of `i` leaves, with a value returned. -/
def Answers (i : Instr) (s t : State) : Prop := ∃ v u, Effect i s u ∧ t = putRet v u

variable {i : Instr} {s t : State}

theorem answers_next {v : Ret} {u : State} (he : Effect i s u) (h : Host.Outcome.next (putRet v u) = (.next t : Out)) :
    Answers i s t := by
  cases h; exact ⟨v, u, he, rfl⟩

theorem answers_select {c : Bool} {v : Ret} {u : State} (he : c = true → Effect i s u)
    (h : select c (putRet v u) = .next t) : Answers i s t := by
  obtain ⟨hc, rfl⟩ := (select_next_iff _ _ _).mp h
  exact ⟨v, u, he hc, rfl⟩

/-- A row of the receive state machine is `handle_rx` of the byte that selects it. -/
theorem answers_rxRow (row : RxRow) (b : Byte)
    (h : select (rxRow s b == row) (rxReturned (runRx row b s)) = .next t) : Answers i s t :=
  answers_select (fun hr => beq_iff_eq.mp hr ▸ .byte b) h

/-- An arm of the selector is `tx_next` where it is selected. -/
theorem answers_txArm (a : TxArm) (h : select (txArm s == a) (putRet .nothing (runArm a s)) = .next t) : Answers i s t :=
  answers_select (fun ha => (beq_iff_eq (a := txArm s)).mp ha ▸ .reaction .idle (by simp)) h

/-- A case of `service` is `service` where it is selected. -/
theorem answers_serviceRow (row : ServiceRow) (x : Result × State)
    (hx : serviceRow s s.cfg.tResponse = row → service s = x)
    (h : select (serviceRow s s.cfg.tResponse == row) (returned x) = .next t) : Answers i s t :=
  answers_select (fun hr => hx (beq_iff_eq.mp hr) ▸ .service) h

theorem answers_runOrSkip (f : Family) (p : List Byte) (hf : f ≠ .echoClimate ∧ f ≠ .echoSwing)
    (h : runOrSkip f p s = .next t) : Answers i s t := by
  refine answers_next ?_ h
  split
  · exact .response f p (by simp [hf])
  · exact .nothing

theorem sendRow_ok_iff (s : State) (code : Code) :
    sendRow s code = .ok ↔ s.ftState = .idle ∧ 1 ≤ code.length ∧ code.length ≤ maxCmdLen := by
  unfold sendRow
  by_cases hi : s.ftState = .idle
  · by_cases hl : 1 ≤ code.length ∧ code.length ≤ maxCmdLen <;> simp [hi, hl]
  · simp [hi]

/-- `send_frame` has no effect, or the frame went out (40_transport.md R130 to R132). -/
theorem answers_sendFrame (code : Code) (p : Option Payload)
    (h : Host.Outcome.next (returned (sendFrame code p s)) = (.next t : Out)) : Answers i s t := by
  refine answers_next ?_ h
  unfold sendFrame
  cases hr : sendRow s code
  case ok =>
    obtain ⟨-, h1, h2⟩ := (sendRow_ok_iff s code).mp hr
    exact .frame code p h1 h2
  all_goals exact .nothing

theorem effect_send (code : Code) (p : Option Payload) : Effect i s (Machine.send code p s).2 :=
  send_preserves (Effect i s) code p s .nothing (.send code p)

/-- Where an operation answers a next state, it had one of the effects. -/
theorem exec_answers (h : exec i s = .next t) : Answers i s t := by
  cases i
  case stx | etx | enq | ack | nak | frameR =>
    cases h; exact ⟨s.ret, _, .arrival _, rfl⟩
  case frameQ1 | frameQ2 | frameC1 | frameC2 => exact answers_sendFrame _ _ h
  case checksum | encodeFrame | reactBusy | isReady | snapshot => exact answers_next .nothing h
  case cmdClimate => exact answers_txArm .climate h
  case cmdSwing => exact answers_txArm .swing h
  case queryContinue => exact answers_txArm .continueScan h
  case queryStart => exact answers_txArm .startScan h
  case idleNothing => exact answers_txArm .nothing h
  case ackEcho => exact answers_select (fun _ => .ackEcho) h
  case rxQackAck => exact answers_rxRow .qackAck _ h
  case rxQackNak => exact answers_rxRow .qackNak _ h
  case rxQackOther b => exact answers_rxRow .qackOther b h
  case rxCackAck => exact answers_rxRow .cackAck _ h
  case rxCackNak => exact answers_rxRow .cackNak _ h
  case rxCackOther b => exact answers_rxRow .cackOther b h
  case rxQstxStx => exact answers_rxRow .qstxStx _ h
  case rxQstxAck => exact answers_rxRow .qstxAck _ h
  case rxQstxOther b => exact answers_rxRow .qstxOther b h
  case rxQetxData b => exact answers_rxRow .qetxData b h
  case rxQetxEtxEmpty => exact answers_rxRow .etxEmpty _ h
  case rxQetxEtxGood => exact answers_rxRow .etxGood _ h
  case rxQetxEtxBad => exact answers_rxRow .etxBad _ h
  case rxNotConsumed b => exact answers_rxRow .notConsumed b h
  case rxDispatch b => exact answers_next (.byte b) h
  case sendFrameBusy | sendFrameBadLen | serviceIdle | rspShort => exact answers_select (fun _ => .nothing) h
  case sendFrameOk code p =>
    refine answers_select (fun hr => ?_) h
    obtain ⟨-, h1, h2⟩ := (sendRow_ok_iff s code).mp (beq_iff_eq.mp hr)
    exact .frame code p h1 h2
  case serviceCooldown => exact answers_serviceRow .cooldown _ (fun hr => by rw [service, hr]) h
  case serviceReceive => exact answers_serviceRow .receive _ (fun hr => by rw [service, hr]) h
  case serviceTimeout => exact answers_serviceRow .timeout _ (fun hr => by rw [service, hr]) h
  case complete => exact answers_next (.complete _) h
  case rspBasic p => exact answers_runOrSkip .basic p (by simp) h
  case rspSwing p => exact answers_runOrSkip .swing p (by simp) h
  case rspTempCombined p => exact answers_runOrSkip .tempCombined p (by simp) h
  case rspVersion p => exact answers_runOrSkip .version p (by simp) h
  case rspFanMode p => exact answers_runOrSkip .fanMode p (by simp) h
  case rspTempInside p => exact answers_runOrSkip .tempInside p (by simp) h
  case rspTempCoil p => exact answers_runOrSkip .tempCoil p (by simp) h
  case rspTempOutside p => exact answers_runOrSkip .tempOutside p (by simp) h
  case rspFanRpm p => exact answers_runOrSkip .fanRpm p (by simp) h
  case rspCompressor p => exact answers_runOrSkip .compressor p (by simp) h
  case rspSetpoint p => exact answers_runOrSkip .setpoint p (by simp) h
  case rspSwingAngle p => exact answers_runOrSkip .swingAngle p (by simp) h
  case echoClimate => exact answers_next (.response .echoClimate [] fun _ => rfl) h
  case echoSwing => exact answers_next (.response .echoSwing [] fun _ => rfl) h
  case rspUnknown code p => exact answers_select (fun _ => .unknown code p) h
  case parseAckBare =>
    refine answers_select (fun hb => ?_) h
    have ha : react .ack s = parseAckBare s := if_pos (of_decide_eq_true hb)
    exact ha ▸ .reaction .ack fun _ => rfl
  case parseAckSplit =>
    refine answers_select (fun hb => ?_) h
    have ha : react .ack s = parseAckSplit s := if_neg (of_decide_eq_true hb)
    exact ha ▸ .reaction .ack fun _ => rfl
  case advance => exact answers_next .advance h
  case dispatch code p => exact answers_next (.dispatch code p rfl) h
  case send code p => exact answers_next (effect_send code p) h
  case txNext => exact answers_next (.reaction .idle (by simp)) h
  case handleNakQuery => exact answers_select .drop h
  case handleNakCommand => exact answers_select (fun _ => .reaction .ack fun _ => rfl) h
  case reactError => exact answers_next (.reaction .error fun _ => rfl) h
  case reactTimeout => exact answers_next (.reaction .timeout (by simp)) h
  case tick now => exact answers_next (.tick now rfl) h
  case requestClimateChange => exact answers_next (.request _ true _ _ (fun _ => rfl) id) h
  case requestSwingChange => exact answers_next (.request _ _ true _ id (fun _ => rfl)) h
  case requestRefresh => exact answers_next (.request _ _ _ true id id) h
  case setDiagMode b =>
    simp only [exec, execSetDiagMode] at h
    split at h
    · rename_i hp; exact answers_next (.diag b hp) h
    · cases h
  case hostInit q =>
    simp only [exec, execHostInit] at h
    split at h
    · rename_i hq; cases h; exact ⟨.nothing, _, .init q rfl hq, rfl⟩
    · cases h

/-- A tick is `service`, the reaction to its result, and a write of the report port (41_scheduler.md R172). -/
theorem tickOnce_eq (now : Time) (s : State) :
    ∃ e, tickOnce now s =
      { react (service (setNow now s)).1 (service (setNow now s)).2 with report := e } := by
  simp only [tickOnce]
  cases (service (setNow now s)).1 <;> exact ⟨_, rfl⟩

/-! ## Legal states -/

/-- The conditions of 41_scheduler.md R171 on a query set, as the invariants state them for the pool. -/
theorem querySetOk_legal (c : Config) (q : List Code) (h : c.querySetOk q = true) :
    q.Nodup ∧ q.length ≤ c.poolMax ∧
      ∀ e ∈ q, 1 ≤ e.length ∧ e.length ≤ maxCmdLen ∧ e ≠ c.cmdClimate ∧ e ≠ c.cmdSwing ∧ etxByte ∉ e := by
  simp only [Config.querySetOk, Bool.and_eq_true, decide_eq_true_eq, List.all_eq_true, Bool.not_eq_true',
    beq_eq_false_iff_ne, List.contains_eq_mem, decide_eq_false_iff_not] at h
  obtain ⟨⟨⟨⟨hlen, hdist⟩, hsize⟩, hcmd⟩, hetx⟩ := h
  exact ⟨hdist, hsize, fun e he =>
    ⟨(hlen e he).1, (hlen e he).2, (hcmd e he).1, (hcmd e he).2, hetx e he⟩⟩

theorem querySetOk_of_wf (c : Config) (h : c.wf = true) : c.querySetOk c.querySet = true := by
  simp only [Config.wf, Bool.and_eq_true] at h
  exact h.2

/-- Settles O47: the initial pool is the query set, which is legal, and every other element has its reset value. -/
theorem initialStatesAreLegal : Obligations.InitialStatesAreLegal := by
  intro c hwf
  obtain ⟨hdist, hsize, hcodes⟩ := querySetOk_legal c _ (querySetOk_of_wf c hwf)
  exact {
    cfgOk := hwf
    cursorOk := Nat.le_refl _
    bufOk := Nat.zero_le _
    bufEmpty := fun _ => rfl
    poolDistinct := hdist
    poolSize := hsize
    poolCodes := hcodes
    txCmdOk := ⟨Nat.le_succ 1, Nat.le_refl 2⟩
    coolOk := fun h => nomatch h
    cacheOk := rfl
    diagOk := fun _ => ⟨rfl, rfl⟩ }

theorem s21_wf : Config.s21.wf = true := by decide

/-- Settles O48: the reset state is the initial state of well-formed parameters. -/
theorem resetStateIsLegal : Obligations.ResetStateIsLegal := initialStatesAreLegal Config.s21 s21_wf

/-- Settles O36: `initialized`, element by element; the free code of `tx_cmd` has 1 or 2 bytes. -/
theorem initializeEstablishesResetState : Obligations.InitializeEstablishesResetState := by
  intro s q hq
  exact ⟨_, _, freeTxCmd s.freeCount, _, if_pos hq, freeTxCmd_length s.freeCount⟩

/-! ## Every operation keeps a legal state legal -/

theorem inv_initialized (q : List Code) (h : Inv s) (hq : s.cfg.querySetOk q = true) : Inv (initialized q s) := by
  obtain ⟨hdist, hsize, hcodes⟩ := querySetOk_legal s.cfg q hq
  exact { initialStatesAreLegal s.cfg h.cfgOk with
    cursorOk := Nat.le_refl _
    poolDistinct := hdist
    poolSize := hsize
    poolCodes := hcodes
    txCmdOk := freeTxCmd_length s.freeCount
    coolOk := fun hc => nomatch hc }

theorem inv_putRet (v : Ret) (h : Inv s) : Inv (putRet v s) := { h with }

theorem inv_emitEvent (e : Event) (h : Inv s) : Inv (emitEvent e s) := { h with }

theorem inv_complete (c : CoolSel) (h : Inv s) : Inv (complete c s) :=
  { h with
    bufEmpty := fun hc => by rcases hc with hc | hc | hc <;> cases hc
    coolOk := fun _ => by cases c <;> simp [coolLength] }

theorem inv_returnToIdle (h : Inv s) : Inv (returnToIdle s) :=
  { h with
    bufEmpty := fun hc => by rcases hc with hc | hc | hc <;> cases hc
    coolOk := fun hc => nomatch hc }

/-- `handle_rx` fills the buffer only in `QueryEtx`, up to `RX_MAX` (40_transport.md R147), and empties none. -/
theorem inv_handleRx (b : Byte) (h : Inv s) : Inv (handleRx b s).2 := by
  cases hr : (handleRx b s).1
  case goOn =>
    rcases handleRx_goOn b s hr with ⟨hs, -, h'⟩ | ⟨-, -, h'⟩ | ⟨-, -, h'⟩ | ⟨hs, -, hlen, h'⟩ | ⟨-, h'⟩ <;> rw [h']
    · exact { h with bufEmpty := fun _ => h.bufEmpty (.inl hs), coolOk := fun hc => nomatch hc }
    · exact { h with
        bufEmpty := fun hc => by rcases hc with hc | hc | hc <;> cases hc
        coolOk := fun hc => nomatch hc }
    · exact h
    · exact { h with
        bufOk := by simpa using hlen
        bufEmpty := fun hc => by simp [hs] at hc }
    · exact h
  case done r =>
    rcases handleRx_done b s r hr with ⟨-, -, -, h'⟩ | ⟨-, hs, -, -, -, h'⟩ | ⟨-, -, -, h'⟩ | ⟨-, -, h'⟩ <;> rw [h']
    · exact inv_complete _ h
    · have hstrip : Inv (ackEcho (setBuf s.ftBuf.dropLast s)) :=
        { h with
          bufOk := Nat.le_trans (by simp [ackEcho]) h.bufOk
          bufEmpty := fun hc => by simp [ackEcho, hs] at hc }
      exact inv_complete _ hstrip
    · exact inv_complete _ h
    · exact inv_complete _ h

theorem inv_service (h : Inv s) : Inv (service s).2 :=
  service_preserves Inv (fun _ => inv_returnToIdle) (fun _ _ h => { h with }) (fun b _ => inv_handleRx b) s h

theorem inv_sendFrameDone (code : Code) (p : Option Payload) (h : Inv s) : Inv (sendFrameDone code p s) :=
  { h with
    bufOk := Nat.zero_le _
    bufEmpty := fun _ => rfl
    coolOk := fun hc => by cases p <;> cases hc }

theorem inv_setTxCmd (code : Code) (h : Inv s) (h1 : 1 ≤ code.length) (h2 : code.length ≤ maxCmdLen) :
    Inv (setTxCmd code s) := { h with txCmdOk := ⟨h1, h2⟩ }

/-- A pool that lost entries stays legal, with a cursor within it. -/
theorem inv_sublist_pool (l : List Code) (n : Nat) (r : Bool) (h : Inv s) (hl : l.Sublist s.pool) (hn : n ≤ l.length) :
    Inv { s with pool := l, cursor := n, refreshRequested := r } :=
  { h with
    cursorOk := hn
    poolDistinct := hl.nodup h.poolDistinct
    poolSize := Nat.le_trans hl.length_le h.poolSize
    poolCodes := fun q hq => h.poolCodes q (hl.subset hq) }

theorem scanStarted_pool_sublist (s : State) : (scanStarted s).pool.Sublist s.pool := by
  simp only [scanStarted]
  split
  · exact removeValue_sublist _ _
  · exact List.Sublist.refl _

theorem inv_scanStarted (h : Inv s) : Inv (scanStarted s) :=
  inv_sublist_pool _ 0 false h (scanStarted_pool_sublist s) (Nat.zero_le _)

theorem inv_txNext (h : Inv s) : Inv (txNext s) :=
  txNext_preserves Inv s h (inv_scanStarted h)
    fun code p _ ht h1 h2 => inv_setTxCmd code (inv_sendFrameDone code p ht) h1 h2

/-- The cursor stood on the erased entry, so that it stands within the pool that is left (41_scheduler.md R185). -/
theorem inv_dropQuery (h : Inv s) (hq : nakIsQuery s = true) : Inv (dropQuery s) := by
  have hlt := ((nakIsQuery_iff s).mp hq).1
  have hlen := poolErase_length s.pool s.cursor hlt
  exact inv_sublist_pool _ s.cursor s.refreshRequested h (poolErase_sublist _ _) (by omega)

theorem inv_runFamily (f : Family) (p : List Byte) (h : Inv s) : Inv (runFamily f p s) := by
  obtain ⟨_, _, _, _, _, _, _, _, _, _, _, _, _, _, h'⟩ := runFamily_frame f p s
  rw [h']
  exact { h with }

theorem diagPresent_of_diagnosing (h : diagnosing s = true) : s.cfg.diagPresent = true := by
  simp only [diagnosing, Bool.and_eq_true] at h
  exact h.1

/-- The diff cache is written only where diagnostics are present (42_decoder.md R228). -/
theorem inv_handleUnknown (code : Code) (p : List Byte) (h : Inv s) : Inv (handleUnknown code p s) := by
  rcases handleUnknown_cases code p s with ⟨-, h'⟩ | ⟨-, -, h'⟩ | ⟨hd, -, h'⟩ <;> rw [h']
  · exact h
  · exact inv_emitEvent _ h
  · have hp := diagPresent_of_diagnosing hd
    exact { h with
      cacheOk := cacheWf_insert _ _ _ h.cacheOk
      diagOk := fun hn => absurd (hp.symm.trans hn) (by decide) }

theorem inv_dispatchRsp (code : Code) (p : List Byte) (h : Inv s) : Inv (dispatchRsp code p s) := by
  unfold dispatchRsp
  split
  · exact inv_runFamily _ p h
  · exact h
  · exact inv_handleUnknown code p h

theorem inv_advanceCursor (h : Inv s) : Inv (advanceCursor s) := by
  unfold advanceCursor
  split
  · rename_i hlt; exact { h with cursorOk := hlt }
  · exact h

theorem inv_parseAck (h : Inv s) : Inv (parseAck s) := by
  unfold parseAck
  split
  · exact inv_dispatchRsp _ _ h
  · exact inv_dispatchRsp _ _ (inv_advanceCursor h)

theorem inv_react (r : Result) (h : Inv s) : Inv (react r s) := by
  cases r
  case ack => exact inv_parseAck h
  case idle => exact inv_txNext h
  case nak =>
    simp only [react, handleNak]
    split
    · rename_i hq; exact inv_dropQuery h hq
    · exact inv_parseAck h
  case error => exact { h with cursorOk := Nat.le_refl _ }
  case timeout => exact inv_emitEvent _ h
  case busy => exact h

theorem inv_tickOnce (now : Time) (h : Inv s) : Inv (tickOnce now s) := by
  obtain ⟨e, he⟩ := tickOnce_eq now s
  have hnow : Inv (setNow now s) := { h with }
  rw [he]
  exact { inv_react _ (inv_service hnow) with }

theorem inv_effect {u : State} (h : Inv s) (he : Effect i s u) : Inv u := by
  cases he with
  | nothing => exact h
  | arrival | ackEcho | request => exact { h with }
  | frame code p => exact inv_sendFrameDone code p h
  | send code p h1 h2 => exact inv_setTxCmd code (inv_sendFrameDone code p h) h1 h2
  | byte b => exact inv_handleRx b h
  | complete c => exact inv_complete c h
  | service => exact inv_service h
  | response f p => exact inv_runFamily f p h
  | unknown code p => exact inv_handleUnknown code p h
  | dispatch code p => exact inv_dispatchRsp code p h
  | advance => exact inv_advanceCursor h
  | drop hq => exact inv_dropQuery h hq
  | reaction r => exact inv_react r h
  | tick now => exact inv_tickOnce now h
  | diag b hp => exact { h with diagOk := fun hn => absurd (hp.symm.trans hn) (by decide) }
  | init q _ hq => exact inv_initialized q h hq

theorem inv_exec (h : Inv s) (he : exec i s = .next t) : Inv t := by
  obtain ⟨v, u, heff, rfl⟩ := exec_answers he
  exact inv_putRet v (inv_effect h heff)

/-- Settles O46: what is presented is no part of the invariants, and every operation keeps them (`inv_exec`). -/
theorem stepKeepsLegalStates : Obligations.StepKeepsLegalStates := by
  intro s t h hst
  have htaken : ∀ rest, Inv { s with inputs := rest } := fun _ => { h with }
  obtain ⟨-, ⟨-, rfl⟩ | ⟨b, rest, -, rfl⟩ | ⟨w, rest, i, -, -, -, he⟩ | ⟨w, rest, i, -, -, he⟩⟩ := step_next s t hst
  · exact h
  · exact { h with }
  · exact inv_exec (htaken rest) he
  · exact inv_exec (htaken rest) he

/-! ## What an operation transmits -/

/-- One frame went out, and `rx` was flushed for its answer (40_transport.md R131). -/
def FrameSent (s t : State) : Prop :=
  ∃ (code : Code) (p : Option Payload), 1 ≤ code.length ∧ code.length ≤ maxCmdLen ∧ t.tx = s.tx ++ encodeFrame code p ∧
    t.rx = [] ∧ (t.ftState = .queryAck ∨ t.ftState = .commandAck)

/-- What a state shows of the transmissions since `s`: none, one `ACK`, or one frame. -/
def Transmits (s t : State) : Prop := t.tx = s.tx ∨ t.tx = s.tx ++ [ackByte] ∨ FrameSent s t

theorem frameSent_sendFrameDone (code : Code) (p : Option Payload) (h1 : 1 ≤ code.length) (h2 : code.length ≤ maxCmdLen) :
    FrameSent s (sendFrameDone code p s) :=
  ⟨code, p, h1, h2, rfl, rfl, by cases p <;> simp [sendFrameDone, sentState]⟩

theorem frameSent_accepted (code : Code) (p : Option Payload) (h1 : 1 ≤ code.length) (h2 : code.length ≤ maxCmdLen) :
    FrameSent s (setTxCmd code (sendFrameDone code p s)) := frameSent_sendFrameDone code p h1 h2

theorem send_tx (code : Code) (p : Option Payload) (s : State) :
    (send code p s).2.tx = s.tx ∨ FrameSent s (send code p s).2 :=
  send_preserves (fun t => t.tx = s.tx ∨ FrameSent s t) code p s (.inl rfl)
    fun h1 h2 => .inr (frameSent_accepted code p h1 h2)

theorem txNext_tx (s : State) : (txNext s).tx = s.tx ∨ FrameSent s (txNext s) := by
  unfold txNext
  cases txArm s
  case nothing => exact .inl rfl
  case startScan =>
    simp only [runArm, startScan]
    split
    · exact .inl rfl
    · rename_i q _ _; exact send_tx q none (scanStarted s)
  all_goals exact send_tx _ _ s

/-- A handler transmits at most the one `ACK`, and then it ends the exchange (40_transport.md R149). -/
theorem handleRx_tx (b : Byte) (s : State) :
    (handleRx b s).2.tx = s.tx ∨
      (handleRx b s).2.tx = s.tx ++ [ackByte] ∧ ∃ r, (handleRx b s).1 = .done r := by
  cases hr : (handleRx b s).1
  case goOn =>
    rcases handleRx_goOn b s hr with ⟨-, -, h'⟩ | ⟨-, -, h'⟩ | ⟨-, -, h'⟩ | ⟨-, -, -, h'⟩ | ⟨-, h'⟩ <;> rw [h'] <;>
      exact .inl rfl
  case done r =>
    rcases handleRx_done b s r hr with ⟨-, -, -, h'⟩ | ⟨-, -, -, -, -, h'⟩ | ⟨-, -, -, h'⟩ | ⟨-, -, h'⟩ <;> rw [h']
    · exact .inl rfl
    · exact .inr ⟨rfl, r, rfl⟩
    · exact .inl rfl
    · exact .inl rfl

theorem rxLoop_ne_idle (bs : List Byte) (s : State) : (rxLoop bs s).1 ≠ .idle := by
  induction bs generalizing s with
  | nil => exact nofun
  | cons b rest ih =>
    cases hr : (handleRx b (rxConsume rest s)).1 with
    | goOn => rw [rxLoop_goOn b rest s hr]; exact ih _
    | done r =>
      rw [rxLoop_done b rest s r hr]
      rcases handleRx_done b _ r hr with ⟨rfl, -⟩ | ⟨rfl, -⟩ | ⟨rfl, -⟩ | ⟨rfl, -⟩ <;> exact nofun

/-- However many bytes the loop takes, it transmits at most one `ACK`: the handler that does ends it. -/
theorem rxLoop_tx (bs : List Byte) (s : State) :
    (rxLoop bs s).2.tx = s.tx ∨ (rxLoop bs s).2.tx = s.tx ++ [ackByte] := by
  induction bs generalizing s with
  | nil => exact .inl rfl
  | cons b rest ih =>
    have hb := handleRx_tx b (rxConsume rest s)
    cases hr : (handleRx b (rxConsume rest s)).1 with
    | goOn =>
      have hkept : (handleRx b (rxConsume rest s)).2.tx = s.tx := by simpa [hr] using hb
      rw [rxLoop_goOn b rest s hr, ← hkept]
      exact ih _
    | done r =>
      rw [rxLoop_done b rest s r hr]
      exact hb.imp id And.left

/-- `service` transmits nothing where it answers `Idle`, and else at most one `ACK`. -/
theorem service_tx (s : State) :
    (service s).2.tx = s.tx ∨ (service s).1 ≠ .idle ∧ (service s).2.tx = s.tx ++ [ackByte] := by
  unfold service
  cases serviceRow s s.cfg.tResponse
  case cooldown =>
    simp only [serviceCooldown]
    split <;> exact .inl rfl
  case receive => exact (rxLoop_tx s.rx s).imp id fun h => ⟨rxLoop_ne_idle s.rx s, h⟩
  all_goals exact .inl rfl

/-- Only the reaction to `Idle`, the selector, transmits (41_scheduler.md R184, 42_decoder.md R231). -/
theorem react_tx (r : Result) (s : State) (h : r ≠ .idle) : (react r s).tx = s.tx := by
  cases r
  case idle => exact absurd rfl h
  case ack => exact parseAck_tx s
  case nak => exact handleNak_tx s
  all_goals rfl

theorem react_transmits (r : Result) (s : State) : (react r s).tx = s.tx ∨ r = .idle ∧ FrameSent s (react r s) := by
  by_cases hr : r = .idle
  · subst hr; exact (txNext_tx s).imp id fun h => ⟨rfl, h⟩
  · exact .inl (react_tx r s hr)

/-- A tick transmits by its `service` or by its selector, never by both. -/
theorem tickOnce_transmits (now : Time) (s : State) : Transmits s (tickOnce now s) := by
  obtain ⟨e, he⟩ := tickOnce_eq now s
  have hreact := react_transmits (service (setNow now s)).1 (service (setNow now s)).2
  rw [he]
  rcases service_tx (setNow now s) with hserv | ⟨hidle, hserv⟩
  · rcases hreact with h | ⟨-, code, p, h1, h2, htx, hlink⟩
    · exact .inl (h.trans hserv)
    · exact .inr (.inr ⟨code, p, h1, h2, by rw [htx, hserv]; rfl, hlink⟩)
  · rw [or_iff_left fun h => hidle h.1] at hreact
    exact .inr (.inl (hreact.trans hserv))

theorem effect_transmits {u : State} (he : Effect i s u) : Transmits s u := by
  cases he with
  | nothing | arrival | complete | drop | request | diag | init => exact .inl rfl
  | frame code p h1 h2 => exact .inr (.inr (frameSent_sendFrameDone code p h1 h2))
  | send code p h1 h2 => exact .inr (.inr (frameSent_accepted code p h1 h2))
  | byte b => exact (handleRx_tx b s).imp id fun h => .inl h.1
  | ackEcho => exact .inr (.inl rfl)
  | service => exact (service_tx s).imp id fun h => .inl h.2
  | response f p => exact .inl (runFamily_tx f p s)
  | unknown code p => exact .inl (handleUnknown_tx code p s)
  | dispatch code p => exact .inl (dispatchRsp_tx code p s)
  | advance => exact .inl (by rw [advanceCursor_eq])
  | reaction r => exact (react_transmits r s).imp id fun h => .inr h.2
  | tick now => exact tickOnce_transmits now s

/-- Settles O57, by the effects: a frame goes out by an accepted `send_frame` alone, an `ACK` by the echo alone. -/
theorem transmissionsAreFramesOrOneAck : Obligations.TransmissionsAreFramesOrOneAck := by
  intro i s t h
  obtain ⟨v, u, he, rfl⟩ := exec_answers h
  have htx : Transmits s u := effect_transmits he
  exact htx

/-! ## What an operation forgets -/

/-- What every operation but the initialization keeps: the flags and readiness bits that are set, the order and the absence of
entries in the pool, and the model's own fields. -/
structure Remembers (s t : State) : Prop where
  supportRH : s.supportRH = true → t.supportRH = true
  supportRa : s.supportRa = true → t.supportRa = true
  supportRG : s.supportRG = true → t.supportRG = true
  basic : s.ready.basic = true → t.ready.basic = true
  swing : s.ready.swing = true → t.ready.swing = true
  compressor : s.ready.compressor = true → t.ready.compressor = true
  pool : t.pool.Sublist s.pool
  cfg : t.cfg = s.cfg
  inputs : t.inputs = s.inputs
  freeCount : t.freeCount = s.freeCount

theorem Remembers.refl (s : State) : Remembers s s := ⟨id, id, id, id, id, id, .refl _, rfl, rfl, rfl⟩

theorem Remembers.trans {u : State} (h : Remembers s t) (h' : Remembers t u) : Remembers s u where
  supportRH := h'.supportRH ∘ h.supportRH
  supportRa := h'.supportRa ∘ h.supportRa
  supportRG := h'.supportRG ∘ h.supportRG
  basic := h'.basic ∘ h.basic
  swing := h'.swing ∘ h.swing
  compressor := h'.compressor ∘ h.compressor
  pool := h'.pool.trans h.pool
  cfg := h'.cfg.trans h.cfg
  inputs := h'.inputs.trans h.inputs
  freeCount := h'.freeCount.trans h.freeCount

theorem remembers_handleRx (b : Byte) (s : State) : Remembers s (handleRx b s).2 := by
  obtain ⟨_, _, _, _, h⟩ := handleRx_frame b s
  rw [h]; exact { Remembers.refl s with }

theorem remembers_service (s : State) : Remembers s (service s).2 := by
  obtain ⟨_, _, _, _, _, _, h⟩ := service_frame s
  rw [h]; exact { Remembers.refl s with }

theorem remembers_txNext (s : State) : Remembers s (txNext s) :=
  txNext_preserves (Remembers s) s (.refl s) { Remembers.refl s with pool := scanStarted_pool_sublist s }
    fun _ _ _ ht _ _ => { ht with }

theorem remembers_runFamily (f : Family) (p : List Byte) (s : State) : Remembers s (runFamily f p s) := by
  cases f
  case basic => exact { Remembers.refl s with basic := fun _ => rfl }
  case swing => exact { Remembers.refl s with swing := fun _ => rfl }
  case compressor => exact { Remembers.refl s with compressor := fun _ => rfl }
  case tempInside => exact { Remembers.refl s with supportRH := fun _ => rfl }
  case tempOutside => exact { Remembers.refl s with supportRa := fun _ => rfl }
  case fanMode =>
    simp only [runFamily, handleFanMode]
    split
    · exact .refl s
    · exact { Remembers.refl s with supportRG := fun _ => rfl }
  all_goals exact { Remembers.refl s with }

theorem remembers_handleUnknown (code : Code) (p : List Byte) (s : State) : Remembers s (handleUnknown code p s) := by
  obtain ⟨_, _, h⟩ := handleUnknown_frame code p s
  rw [h]; exact { Remembers.refl s with }

theorem remembers_dispatchRsp (code : Code) (p : List Byte) (s : State) : Remembers s (dispatchRsp code p s) := by
  unfold dispatchRsp
  split
  · exact remembers_runFamily _ p s
  · exact .refl s
  · exact remembers_handleUnknown code p s

theorem remembers_advanceCursor (s : State) : Remembers s (advanceCursor s) := by
  rw [advanceCursor_eq]; exact { Remembers.refl s with }

theorem remembers_parseAck (s : State) : Remembers s (parseAck s) := by
  unfold parseAck
  split
  · exact remembers_dispatchRsp _ _ s
  · exact (remembers_advanceCursor s).trans (remembers_dispatchRsp _ _ _)

theorem remembers_dropQuery (s : State) : Remembers s (dropQuery s) :=
  { Remembers.refl s with pool := poolErase_sublist _ _ }

theorem remembers_react (r : Result) (s : State) : Remembers s (react r s) := by
  cases r
  case ack => exact remembers_parseAck s
  case idle => exact remembers_txNext s
  case nak =>
    simp only [react, handleNak]
    split
    · exact remembers_dropQuery s
    · exact remembers_parseAck s
  all_goals exact { Remembers.refl s with }

theorem remembers_tickOnce (now : Time) (s : State) : Remembers s (tickOnce now s) := by
  obtain ⟨e, he⟩ := tickOnce_eq now s
  have hserv : Remembers s (service (setNow now s)).2 := { remembers_service (setNow now s) with }
  rw [he]
  exact { hserv.trans (remembers_react _ _) with }

theorem effect_remembers {u : State} (hi : isInit i = false) (he : Effect i s u) : Remembers s u := by
  cases he with
  | nothing | arrival | frame | send | ackEcho | complete | request | diag => exact { Remembers.refl s with }
  | byte b => exact remembers_handleRx b s
  | service => exact remembers_service s
  | response f p => exact remembers_runFamily f p s
  | unknown code p => exact remembers_handleUnknown code p s
  | dispatch code p => exact remembers_dispatchRsp code p s
  | advance => exact remembers_advanceCursor s
  | drop => exact remembers_dropQuery s
  | reaction r => exact remembers_react r s
  | tick now => exact remembers_tickOnce now s
  | init q hq => subst hq; cases hi

/-! ## Activation flags -/

/-- An activation that waits still waits. -/
structure ActivationsKept (s t : State) : Prop where
  climate : s.activateClimate = true → t.activateClimate = true
  swing : s.activateSwingMode = true → t.activateSwingMode = true

/-- An activation that waits still waits, or the state shows the echo or the `Error` reaction that ended it (10_state.md R31). -/
structure ActivationsAccounted (s t : State) : Prop where
  climate : s.activateClimate = true → t.activateClimate = true ∨ climateEchoed s t ∨ scanAborted t
  swing : s.activateSwingMode = true → t.activateSwingMode = true ∨ swingEchoed s t ∨ scanAborted t

theorem ActivationsKept.refl (s : State) : ActivationsKept s s := ⟨id, id⟩

theorem ActivationsKept.accounted (h : ActivationsKept s t) : ActivationsAccounted s t :=
  ⟨fun hc => .inl (h.climate hc), fun hs => .inl (h.swing hs)⟩

theorem activationsKept_of_eq (hc : t.activateClimate = s.activateClimate)
    (hs : t.activateSwingMode = s.activateSwingMode) : ActivationsKept s t := ⟨hc.trans, hs.trans⟩

theorem runFamily_kept (f : Family) (p : List Byte) (s : State) (hf : ¬ (f = .echoClimate ∨ f = .echoSwing)) :
    ActivationsKept s (runFamily f p s) := by
  cases f
  case echoClimate | echoSwing => simp at hf
  case fanMode =>
    simp only [runFamily, handleFanMode]
    split <;> exact activationsKept_of_eq rfl rfl
  all_goals exact activationsKept_of_eq rfl rfl

theorem runFamily_accounted (f : Family) (p : List Byte) (s : State) : ActivationsAccounted s (runFamily f p s) := by
  by_cases hf : f = .echoClimate ∨ f = .echoSwing
  · rcases hf with rfl | rfl
    · exact ⟨fun _ => .inr (.inl ⟨rfl, rfl, rfl, rfl, rfl⟩), .inl⟩
    · exact ⟨.inl, fun _ => .inr (.inl ⟨rfl, rfl, rfl⟩)⟩
  · exact (runFamily_kept f p s hf).accounted

theorem dispatchRsp_accounted (code : Code) (p : List Byte) (s : State) : ActivationsAccounted s (dispatchRsp code p s) := by
  unfold dispatchRsp
  split
  · exact runFamily_accounted _ p s
  · exact (ActivationsKept.refl s).accounted
  · exact (activationsKept_of_eq (by simp) (by simp)).accounted

theorem parseAck_accounted (s : State) : ActivationsAccounted s (parseAck s) := by
  unfold parseAck
  split
  · exact dispatchRsp_accounted _ _ s
  · have h := dispatchRsp_accounted (s.ftBuf.take (codeLength s)) (s.ftBuf.drop (codeLength s)) (advanceCursor s)
    unfold parseAckSplit
    rw [advanceCursor_eq] at h ⊢
    exact { h with }

/-- The results whose reaction leaves the activation flags alone: the selector, the report and nothing. -/
theorem react_kept (r : Result) (s : State) (hr : ¬ (r = .ack ∨ r = .nak ∨ r = .error)) :
    ActivationsKept s (react r s) := by
  cases r
  case ack | nak | error => simp at hr
  case idle => exact activationsKept_of_eq (txNext_activateClimate s) (txNext_activateSwingMode s)
  all_goals exact activationsKept_of_eq rfl rfl

theorem react_accounted (r : Result) (s : State) : ActivationsAccounted s (react r s) := by
  cases r
  case ack => exact parseAck_accounted s
  case nak =>
    simp only [react, handleNak]
    split
    · have hk : ActivationsKept s (dropQuery s) := activationsKept_of_eq rfl rfl
      exact hk.accounted
    · exact parseAck_accounted s
  case error => exact ⟨fun _ => .inr (.inr ⟨rfl, rfl, rfl, rfl⟩), fun _ => .inr (.inr ⟨rfl, rfl, rfl, rfl⟩)⟩
  case idle | timeout | busy => exact (react_kept _ s (by simp)).accounted

/-- The `service` of a tick touches no field of the Session, so that its reaction alone accounts for the activations. -/
theorem tickOnce_accounted (now : Time) (s : State) : ActivationsAccounted s (tickOnce now s) := by
  obtain ⟨e, he⟩ := tickOnce_eq now s
  have hreact := react_accounted (service (setNow now s)).1 (service (setNow now s)).2
  obtain ⟨_, _, _, _, _, _, hserv⟩ := service_frame (setNow now s)
  rw [he]
  rw [hserv] at hreact ⊢
  exact { hreact with }

/-- An effect keeps the activations, or its operation is one that may clear them and it shows how it did. -/
theorem effect_activations {u : State} (hi : isInit i = false) (he : Effect i s u) :
    ActivationsKept s u ∨ mayClearActivation i = true ∧ ActivationsAccounted s u := by
  cases he with
  | nothing | arrival | frame | send | ackEcho | complete | drop | diag => exact .inl (activationsKept_of_eq rfl rfl)
  | request _ _ _ _ hc hs => exact .inl ⟨hc, hs⟩
  | byte | service | unknown => exact .inl (activationsKept_of_eq (by simp) (by simp))
  | advance => rw [advanceCursor_eq]; exact .inl (activationsKept_of_eq rfl rfl)
  | response f p hm =>
    by_cases hf : f = .echoClimate ∨ f = .echoSwing
    · exact .inr ⟨hm hf, runFamily_accounted f p s⟩
    · exact .inl (runFamily_kept f p s hf)
  | dispatch code p hm => exact .inr ⟨hm, dispatchRsp_accounted code p s⟩
  | reaction r hm =>
    by_cases hr : r = .ack ∨ r = .nak ∨ r = .error
    · exact .inr ⟨hm hr, react_accounted r s⟩
    · exact .inl (react_kept r s hr)
  | tick now hm => exact .inr ⟨hm, tickOnce_accounted now s⟩
  | init q hq => subst hq; cases hi

/-- Settles O55, by the effects: what they remember, and how they account for the activation flags. -/
theorem onlyInitializeForgets : Obligations.OnlyInitializeForgets := by
  intro i s t hi h
  obtain ⟨v, u, he, rfl⟩ := exec_answers h
  have hr := effect_remembers hi he
  have ha := effect_activations hi he
  have hacc : ActivationsAccounted s u := ha.elim ActivationsKept.accounted And.right
  refine ⟨hr.supportRH, hr.supportRa, hr.supportRG, hr.basic, hr.swing, hr.compressor, hr.pool, hr.cfg, hr.inputs,
    hr.freeCount, fun hm => ?kept, hacc.climate, hacc.swing⟩
  case kept =>
    rcases ha with hk | ⟨hm', -⟩
    · exact ⟨hk.climate, hk.swing⟩
    · rw [hm] at hm'; cases hm'

end Sys2Proof.StateElements
end

section
/-! PROOFS. The encodings (30_encoding.md): the decoder and the encoder invert each other, a response frame of the peer
received by the link, the checksum on both sides of it, the field codecs, and the wire rows. -/

namespace Sys2Proof.Encoding

open Sys2Proof.Machine Sys2Proof.Safety

/-! ## Decoding an encoded operation -/

/-- Accepting a word is parsing it and checking the limits of its operands. -/
theorem decode_eq_ok_iff (w : List Byte) (i : Instr) : decode w = .ok i ↔ parse w = .ok i ∧ i.wf = true := by
  unfold decode
  cases parse w with
  | error e => simp
  | ok j =>
    by_cases hj : j.wf = true
    · simp only [hj, if_true, Except.ok.injEq]
      exact ⟨fun h => ⟨h, h ▸ hj⟩, And.left⟩
    · simp only [hj, Bool.false_eq_true, if_false, reduceCtorEq, Except.ok.injEq, false_iff]
      rintro ⟨rfl, hi⟩
      exact hj hi

theorem frameOf_checksum (body : List Byte) (i : Instr) : frameOf body (checksum body) etxByte i = .ok i := by
  simp [frameOf]

theorem responseFrame_enclosed (body : List Byte) :
    responseFrame ([stxByte] ++ body ++ [etxByte]) = .ok (.frameR body) := by
  simp [responseFrame]

theorem codeAndPayload_encCode (f : Code → Option Payload → Instr) (code : Code) (p : Option Payload)
    (h : codeFits code = true) : codeAndPayload f (encCode code ++ payloadBytes p) = .ok (f code p) := by
  simp [codeAndPayload, decCode_encCode code _ h, decPayload_payloadBytes]

theorem codeAndBytes_encCode (f : Code → List Byte → Instr) (code : Code) (p : List Byte) (h : codeFits code = true) :
    codeAndBytes f (encCode code ++ p) = .ok (f code p) := by
  simp [codeAndBytes, decCode_encCode code p h]

theorem completeWord_encoded (r : Result) (t : CoolSel) :
    completeWord [encResult r, encCoolSel t] = .ok (.complete r t) := by
  simp [completeWord, decResult_encResult, decCoolSel_encCoolSel]

theorem tickWord_encTime (t : Time) : tickWord (encTime t) = .ok (.tick t) := by
  simp [tickWord, encTime, decTime_of_encTime]

theorem climateWord_encoded (pw : Bool) (m : Mode) (sp : Int16) (f : Fan) :
    climateWord ([encBool pw, encMode m] ++ encInt16 sp ++ [encFan f]) = .ok (.requestClimateChange pw m sp f) := by
  simp [climateWord, encInt16, decBool_encBool, decMode_encMode, decFan_encFan, decInt16_of_encInt16]

theorem swingWord_encoded (v h : Bool) : swingWord [encBool v, encBool h] = .ok (.requestSwingChange v h) := by
  simp [swingWord, decBool_encBool]

theorem diagWord_encoded (b : Bool) : diagWord [encBool b] = .ok (.setDiagMode b) := by
  simp [diagWord, decBool_encBool, orElse]

theorem querySetWord_encCodes (q : List Code) (h : q.all codeFits = true) :
    parseOp 68 (encCodes q) = .ok (.hostInit q) := by
  simp [parseOp, decCodes_encCodes q h _ (length_le_encCodes q), orElse]

/-- The limits of the two `send_frame` cases that look at the code's length leave room for its length byte (log 1). -/
theorem codeFits_of_wf_sendFrameOk (code : Code) (p : Option Payload) (h : (Instr.sendFrameOk code p).wf = true) :
    codeFits code = true := by
  simp only [Instr.wf, codeFits, maxCmdLen, Bool.and_eq_true, decide_eq_true_eq] at h ⊢
  omega

theorem codeFits_of_wf_sendFrameBadLen (code : Code) (p : Option Payload)
    (h : (Instr.sendFrameBadLen code p).wf = true) : codeFits code = true :=
  ((Bool.and_eq_true _ _).mp h).2

/-- A port word is parsed as its operands are. -/
theorem parse_portWord {row : Nat} {w : List Byte} {i : Instr} (h : parseOp row w = .ok i)
    (hrow : row < 128 := by decide) : parse (opByte row :: w) = .ok i :=
  (parse_opByte row hrow w).trans h

/-- The word of a well-formed operation is parsed back to it, operand by operand. -/
theorem parse_encode (i : Instr) (h : i.wf = true) : parse (encode i) = .ok i := by
  cases i
  case stx | etx | enq | ack | nak => rfl
  case frameQ1 c => exact frameOf_checksum [c] _
  case frameQ2 c d => exact frameOf_checksum [c, d] _
  case frameC1 c p => exact frameOf_checksum ([c] ++ p.bytes) _
  case frameC2 c d p => exact frameOf_checksum ([c, d] ++ p.bytes) _
  case frameR body => exact parse_portWord (responseFrame_enclosed body)
  case encodeFrame code p | sendFrameBusy code p | send code p =>
    exact parse_portWord (codeAndPayload_encCode _ code p h)
  case sendFrameOk code p => exact parse_portWord (codeAndPayload_encCode _ code p (codeFits_of_wf_sendFrameOk code p h))
  case sendFrameBadLen code p =>
    exact parse_portWord (codeAndPayload_encCode _ code p (codeFits_of_wf_sendFrameBadLen code p h))
  case rspUnknown code p | rspShort code p | dispatch code p =>
    exact parse_portWord (codeAndBytes_encCode _ code p h)
  case complete r t => exact parse_portWord (completeWord_encoded r t)
  case hostInit q => exact parse_portWord (querySetWord_encCodes q h)
  case tick t => exact parse_portWord (tickWord_encTime t)
  case requestClimateChange pw m sp f => exact parse_portWord (climateWord_encoded pw m sp f)
  case requestSwingChange ver hor => exact parse_portWord (swingWord_encoded ver hor)
  case setDiagMode b => exact parse_portWord (diagWord_encoded b)
  -- The operands of the other rows stand in the word as they are.
  all_goals exact parse_portWord rfl

/-- Settles O44: the word is parsed back by `parse_encode`, and the check of the limits is the hypothesis. -/
theorem decodeOfEncode : Obligations.DecodeOfEncode :=
  fun i h => (decode_eq_ok_iff _ i).mpr ⟨parse_encode i h, h⟩

/-! ## Encoding a decoded operation -/

/-- What a parser of operands accepts is exactly the operands of that operation's word, whose first byte is the operation byte of
`row`. -/
def ReadsOperands (row : Nat) (parser : List Byte → Except DecodeError Instr) : Prop :=
  ∀ w i, parser w = .ok i → encode i = opByte row :: w

section Parsers

variable {row : Nat}

theorem readsOperands_noOperand {i : Instr} (h : encode i = [opByte row]) : ReadsOperands row (noOperand i) := by
  intro w j hj
  cases w with
  | nil => cases hj; exact h
  | cons b t => cases hj

theorem readsOperands_allBytes {f : List Byte → Instr} (h : ∀ w, encode (f w) = opByte row :: w) :
    ReadsOperands row (fun w => .ok (f w)) := by
  intro w j hj
  cases hj
  exact h w

theorem readsOperands_oneByte {f : Byte → Instr} (h : ∀ b, encode (f b) = [opByte row, b]) :
    ReadsOperands row (oneByte f) := by
  intro w j hj
  unfold oneByte at hj
  split at hj
  · cases hj; exact h _
  · cases hj

theorem readsOperands_stateAndByte {st : Byte} {f : Byte → Instr} (h : ∀ b, encode (f b) = [opByte row, st, b]) :
    ReadsOperands row (stateAndByte st f) := by
  intro w j hj
  unfold stateAndByte at hj
  split at hj
  · split at hj
    · rename_i hst; subst hst; cases hj; exact h _
    · cases hj
  · cases hj

theorem readsOperands_stateAndFixed {st fixed : Byte} {i : Instr} (h : encode i = [opByte row, st, fixed]) :
    ReadsOperands row (stateAndFixed st fixed i) := by
  intro w j hj
  unfold stateAndFixed at hj
  split at hj
  · split at hj
    · rename_i hst; obtain ⟨rfl, rfl⟩ := hst; cases hj; exact h
    · cases hj
  · cases hj

theorem readsOperands_codeAndPayload {f : Code → Option Payload → Instr}
    (h : ∀ code p, encode (f code p) = opByte row :: (encCode code ++ payloadBytes p)) :
    ReadsOperands row (codeAndPayload f) := by
  intro w j hj
  unfold codeAndPayload at hj
  split at hj
  · cases hj
  · rename_i code rest hc
    obtain ⟨hw, -⟩ := encCode_of_decCode _ _ _ hc
    split at hj
    · cases hj
    · rename_i p hp
      cases hj
      rw [h, payloadBytes_of_decPayload _ _ hp, hw]

theorem readsOperands_codeAndBytes {f : Code → List Byte → Instr}
    (h : ∀ code p, encode (f code p) = opByte row :: (encCode code ++ p)) : ReadsOperands row (codeAndBytes f) := by
  intro w j hj
  unfold codeAndBytes at hj
  split at hj
  · cases hj
  · rename_i code rest hc
    obtain ⟨hw, -⟩ := encCode_of_decCode _ _ _ hc
    cases hj
    rw [h, hw]

theorem readsOperands_responseFrame : ReadsOperands 9 responseFrame := by
  intro w j hj
  unfold responseFrame at hj
  split at hj
  · cases hj
  · rename_i b rest
    split at hj
    · rename_i hf
      obtain ⟨rfl, hlast⟩ := hf
      cases hj
      simp [encode, List.dropLast_append_getLast? _ hlast]
    · cases hj

theorem readsOperands_ackEcho : ReadsOperands 17 (parseOp 17) := by
  intro w j hj
  simp only [parseOp] at hj
  split at hj
  · split at hj
    · rename_i hb; subst hb; cases hj; rfl
    · cases hj
  · cases hj

theorem readsOperands_completeWord : ReadsOperands 40 completeWord := by
  intro w j hj
  unfold completeWord at hj
  split at hj
  · split at hj
    · rename_i hr ht
      cases hj
      rw [encode, encResult_of_decResult _ _ hr, encCoolSel_of_decCoolSel _ _ ht]
    · cases hj
  · cases hj

theorem readsOperands_querySetWord : ReadsOperands 68 (parseOp 68) := by
  intro w j hj
  simp only [parseOp] at hj
  cases hq : decCodes w.length w with
  | none => rw [hq] at hj; cases hj
  | some q =>
    obtain ⟨hw, -⟩ := encCodes_of_decCodes _ _ _ hq
    rw [hq] at hj
    cases hj
    rw [encode, hw]

theorem readsOperands_tickWord : ReadsOperands 69 tickWord := by
  intro w j hj
  unfold tickWord at hj
  split at hj
  · cases hj; rw [encode, encTime_decTime]
  · cases hj

theorem readsOperands_climateWord : ReadsOperands 70 climateWord := by
  intro w j hj
  unfold climateWord at hj
  split at hj
  · split at hj
    · rename_i hpw hm hf
      cases hj
      rw [encode, encBool_of_decBool _ _ hpw, encMode_of_decMode _ _ hm, encFan_of_decFan _ _ hf, encInt16_decInt16]
      rfl
    · cases hj
  · cases hj

theorem readsOperands_swingWord : ReadsOperands 71 swingWord := by
  intro w j hj
  unfold swingWord at hj
  split at hj
  · split at hj
    · rename_i hv hh
      cases hj
      rw [encode, encBool_of_decBool _ _ hv, encBool_of_decBool _ _ hh]
    · cases hj
  · cases hj

theorem readsOperands_diagWord : ReadsOperands 73 diagWord := by
  intro w j hj
  unfold diagWord at hj
  split at hj
  · rename_i b
    cases hb : decBool b with
    | none => rw [hb] at hj; cases hj
    | some v =>
      rw [hb] at hj
      cases hj
      rw [encode, encBool_of_decBool _ _ hb]
  · cases hj

end Parsers

/-- The operation port reads every byte after the operation byte, row by row of the table. -/
theorem readsOperands_parseOp (row : Nat) : ReadsOperands row (parseOp row) :=
  match row with
  | 9 => readsOperands_responseFrame
  | 12 | 13 | 14 | 15 | 16 | 36 | 37 | 38 | 39 | 53 | 54 | 57 | 58 | 59 | 62 | 63 | 64 | 65 | 66 | 67 | 72 | 74 | 75 =>
    readsOperands_noOperand rfl
  | 10 | 41 | 42 | 43 | 44 | 45 | 46 | 47 | 48 | 49 | 50 | 51 | 52 => readsOperands_allBytes fun _ => rfl
  | 31 | 32 => readsOperands_oneByte fun _ => rfl
  | 18 | 19 | 21 | 22 | 24 | 25 | 28 | 29 | 30 => readsOperands_stateAndFixed rfl
  | 20 | 23 | 26 | 27 => readsOperands_stateAndByte fun _ => rfl
  | 11 | 33 | 34 | 35 | 61 => readsOperands_codeAndPayload fun _ _ => rfl
  | 55 | 56 | 60 => readsOperands_codeAndBytes fun _ _ => rfl
  | 17 => readsOperands_ackEcho
  | 40 => readsOperands_completeWord
  | 68 => readsOperands_querySetWord
  | 69 => readsOperands_tickWord
  | 70 => readsOperands_climateWord
  | 71 => readsOperands_swingWord
  | 73 => readsOperands_diagWord
  | 0 | 1 | 2 | 3 | 4 | 5 | 6 | 7 | 8 | _ + 76 => fun _ _ hj => nomatch hj

theorem frameOf_eq_ok {body : List Byte} {s e : Byte} {i j : Instr} (h : frameOf body s e i = .ok j) :
    e = etxByte ∧ s = checksum body ∧ j = i := by
  unfold frameOf at h
  split at h
  · split at h
    · cases h; exact ⟨by assumption, by assumption, rfl⟩
    · cases h
  · cases h

/-- A frame of the block's is read to its last byte (30_encoding.md R91 to R93). -/
theorem encode_of_parseFrame (w : List Byte) (i : Instr) (h : parseFrame w = .ok i) : encode i = stxByte :: w := by
  unfold parseFrame at h
  split at h
  case h_5 => cases h
  all_goals obtain ⟨rfl, rfl, rfl⟩ := frameOf_eq_ok h; rfl

theorem encode_of_parseControl (b : Byte) (i : Instr) (h : parseControl b = .ok i) : encode i = [b] := by
  unfold parseControl at h
  split_ifs at h
  all_goals cases h; subst b; rfl

/-- A word that is parsed is the encoding of what it is parsed to. -/
theorem encode_of_parse (w : List Byte) (i : Instr) (h : parse w = .ok i) : encode i = w := by
  cases w with
  | nil => cases h
  | cons b rest =>
    simp only [parse] at h
    split at h
    · cases rest with
      | nil => exact encode_of_parseControl b i h
      | cons c t =>
        dsimp only at h
        split at h
        · rename_i hb; subst hb; exact encode_of_parseFrame _ i h
        · cases h
    · rename_i hb
      rw [readsOperands_parseOp _ _ _ h, opByte_of_toNat b hb]

/-- Settles O45: the limits are the decoder's own check, the bytes are those of `encode_of_parse`. -/
theorem encodeOfDecode : Obligations.EncodeOfDecode := by
  intro w i h
  obtain ⟨hp, hwf⟩ := (decode_eq_ok_iff w i).mp h
  exact ⟨hwf, encode_of_parse w i hp⟩

/-! ## A response frame received -/

theorem handleRx_queryStx_stx (s : State) (h : s.ftState = .queryStx) :
    handleRx stxByte s = (.goOn, setLink .queryEtx s) := by
  simp [handleRx, rxRow, h, runRx, rxFrameStarts]

theorem handleRx_queryEtx_data (b : Byte) (s : State) (h : s.ftState = .queryEtx) (hb : b ≠ etxByte)
    (hl : s.ftBuf.length < rxMax) : handleRx b s = (.goOn, setBuf (s.ftBuf ++ [b]) s) := by
  simp [handleRx, rxRow, h, hb, runRx, rxData, hl]

/-- The `ETX` of a frame whose buffered bytes are `body` and the trailing byte `t` (40_transport.md R149, R151). -/
theorem handleRx_queryEtx_etx (body : List Byte) (t : Byte) (s : State) (h : s.ftState = .queryEtx)
    (hb : s.ftBuf = body ++ [t]) :
    handleRx etxByte s = if t = checksum body then rxFrameGood s else rxError s := by
  by_cases ht : t = checksum body <;> simp [handleRx, rxRow, h, hb, runRx, frameOk_append, ht]

theorem rxLoop_of_handleRx_goOn {b : Byte} {rest : List Byte} {s t : State}
    (h : handleRx b (rxConsume rest s) = (.goOn, t)) : rxLoop (b :: rest) s = rxLoop rest t := by
  rw [rxLoop_goOn b rest s (by rw [h]), h]

theorem rxLoop_of_handleRx_done {b : Byte} {rest : List Byte} {s t : State} {r : Result}
    (h : handleRx b (rxConsume rest s) = (.done r, t)) : rxLoop (b :: rest) s = (r, t) := by
  rw [rxLoop_done b rest s r (by rw [h]), h]

/-- Data bytes that fit are buffered one after the other (40_transport.md R135, R147). -/
theorem rxLoop_data (bs rest : List Byte) (s : State) (h : s.ftState = .queryEtx) (he : etxByte ∉ bs)
    (hl : s.ftBuf.length + bs.length ≤ rxMax) :
    rxLoop (bs ++ rest) (rxConsume (bs ++ rest) s) = rxLoop rest (rxConsume rest (setBuf (s.ftBuf ++ bs) s)) := by
  induction bs generalizing s with
  | nil => rw [List.append_nil]; rfl
  | cons b t ih =>
    obtain ⟨hb, ht⟩ := not_or.mp (mt List.mem_cons.mpr he)
    rw [List.length_cons] at hl
    have hstep : handleRx b (rxConsume (t ++ rest) (rxConsume (b :: (t ++ rest)) s)) =
        (.goOn, rxConsume (t ++ rest) (setBuf (s.ftBuf ++ [b]) s)) :=
      handleRx_queryEtx_data b _ h (Ne.symm hb) (show s.ftBuf.length < rxMax by omega)
    have hnext := ih (setBuf (s.ftBuf ++ [b]) s) h ht (by simp; omega)
    rw [setBuf_ftBuf, List.append_assoc] at hnext
    rw [List.cons_append, rxLoop_of_handleRx_goOn hstep]
    exact hnext

/-- The byte loop over a whole frame: `STX`, the body and its checksum, which the buffer has room for, and the `ETX` that
validates them (30_encoding.md R117). -/
theorem rxLoop_frame (body rest : List Byte) (s : State) (h : s.ftState = .queryStx) (hb : s.ftBuf = [])
    (he : etxByte ∉ body ++ [checksum body]) (hl : body.length < rxMax) :
    rxLoop (stxByte :: (body ++ [checksum body] ++ etxByte :: rest)) s =
      (.ack, { cooling s s.cfg.tTurnaround with
        ftBuf := body, ftTLast := s.now, rx := rest, tx := s.tx ++ [ackByte] }) := by
  have hstart : handleRx stxByte (rxConsume (body ++ [checksum body] ++ etxByte :: rest) s) =
      (.goOn, rxConsume (body ++ [checksum body] ++ etxByte :: rest) (setLink .queryEtx s)) :=
    handleRx_queryStx_stx _ h
  have hdata := rxLoop_data (body ++ [checksum body]) (etxByte :: rest) (setLink .queryEtx s) rfl he
    (by simp [hb]; omega)
  have hend := handleRx_queryEtx_etx body (checksum body)
    (rxConsume rest (rxConsume (etxByte :: rest) (setBuf (body ++ [checksum body]) (setLink .queryEtx s)))) rfl rfl
  rw [setLink_ftBuf, hb, List.nil_append] at hdata
  rw [if_pos rfl] at hend
  rw [rxLoop_of_handleRx_goOn hstart, hdata, rxLoop_of_handleRx_done hend]
  simp [rxConsume, setBuf, setLink, ackEcho, txPut, complete, coolLength, cooling]

theorem encodeFrame_append (code : Code) (p : Option Payload) (rest : List Byte) :
    encodeFrame code p ++ rest =
      stxByte :: (code ++ payloadBytes p ++ [checksum (code ++ payloadBytes p)] ++ etxByte :: rest) := by
  simp [encodeFrame]

theorem payloadBytes_length_le (p : Option Payload) : (payloadBytes p).length ≤ 4 := by
  cases p <;> simp [payloadBytes, Payload.bytes]

/-- In a receiving state whose response timer runs, `SERVICE.RECEIVE` is the byte loop over `rx` (40_transport.md R135). -/
theorem exec_serviceReceive (s : State) (h : s.ftState.receiving = true)
    (ht : (s.now - s.ftTLast).toNat < s.cfg.tResponse) :
    exec .serviceReceive s = .next (returned (rxLoop s.rx s)) := by
  have he : elapsed s s.ftTLast s.cfg.tResponse = false :=
    Bool.eq_false_iff.mpr (mt (elapsed_iff s s.ftTLast s.cfg.tResponse).mp (by omega))
  simp [exec, execServiceReceive, serviceRow_receiving s _ h, he, select, serviceReceive]

/-- Settles O49: the frame's bytes are those of `rxLoop_frame`, and a code of 2 bytes with a payload fills the buffer with its
checksum. -/
theorem responseFrameRoundTrip : Obligations.ResponseFrameRoundTrip := by
  intro s code p rest _ h2 he hs hb ht hrx
  have hlen : (code ++ payloadBytes p).length < rxMax := by
    have := payloadBytes_length_le p
    rw [List.length_append, rxMax]
    omega
  rw [exec_serviceReceive s (by rw [hs]; rfl) ht, hrx, encodeFrame_append, rxLoop_frame _ rest s hs hb he hlen]
  rfl

/-! ## Checksum -/

theorem checksum_toNat (body : List Byte) :
    (checksum body).toNat =
      if (body.map BitVec.toNat).sum % 256 = 2 then 5 else (body.map BitVec.toNat).sum % 256 := by
  have hstx : sum8 body = stxByte ↔ (body.map BitVec.toNat).sum % 256 = 2 := sum8_eq_iff body stxByte
  unfold checksum
  by_cases h : sum8 body = stxByte
  · rw [if_pos h, if_pos (hstx.mp h)]; rfl
  · rw [if_neg h, if_neg (mt hstx.mpr h), sum8_toNat]

/-- Settles O3: the model's fold is the sum over naturals (`checksum_toNat`), and the escape keeps it from `STX`. -/
theorem checksumIsEscapedByteSum : Obligations.ChecksumIsEscapedByteSum :=
  fun _ body => ⟨checksum body, rfl, checksum_toNat body, checksum_ne_stx body⟩

/-- The checksum byte on the receiving side: the sum, or the escape where the sum is `STX` (30_encoding.md R118). -/
theorem eq_checksum_iff (body : List Byte) (t : Byte) (sum : Nat) (h : sum = (body.map BitVec.toNat).sum % 256) :
    t = checksum body ↔ (sum ≠ 2 ∧ t.toNat = sum) ∨ (sum = 2 ∧ t = enqByte) := by
  rw [← BitVec.toNat_inj, checksum_toNat, ← h]
  by_cases h2 : sum = 2
  · simp [h2, ← BitVec.toNat_inj]
  · simp [h2]

/-- Settles O50: both sides of the link compare with the byte that `eq_checksum_iff` describes. -/
theorem checksumEscapeLaw : Obligations.ChecksumEscapeLaw := by
  intro s body t sum hsum
  refine ⟨fun h2 => ?sent, fun hs hb => ⟨_, rfl, ?received⟩⟩
  case sent =>
    have he : enqByte = checksum body := (eq_checksum_iff body enqByte sum hsum).mpr (.inr ⟨h2, rfl⟩)
    simp [exec, execChecksum, putRet, ← he]
  case received =>
    rw [← eq_checksum_iff body t sum hsum, handleRx_queryEtx_etx body t s hs hb]
    by_cases ht : t = checksum body
    · simp [ht, rxReturned, rxFrameGood, rxRet]
    · simp [ht, rxReturned, rxError, rxRet]

/-! ## Field codecs -/

/-- The bytes of a number of three digits (30_encoding.md R102). -/
theorem numToBytes_toNat (n : Int) (h : n.natAbs ≤ 999) :
    (numToBytes n).map BitVec.toNat =
      [48 + n.natAbs % 10, 48 + n.natAbs / 10 % 10, 48 + n.natAbs / 100, if n < 0 then 0x2D else 0x2B] := by
  simp only [numToBytes, List.map_cons, List.map_nil, List.cons.injEq, BitVec.toNat_ofNat, and_true]
  refine ⟨by omega, by omega, by omega, ?_⟩
  split <;> rfl

/-- `bytes_to_num` of three digit bytes and a sign byte (30_encoding.md R101). -/
theorem bytesToNum_four (a b c d : Byte) :
    bytesToNum [a, b, c, d] =
      if d = 0x2D#8 then -((a.toNat - 48 : Int) + 10 * (b.toNat - 48) + 100 * (c.toNat - 48))
      else (a.toNat - 48 : Int) + 10 * (b.toNat - 48) + 100 * (c.toNat - 48) := by
  simp [bytesToNum, digit, byteAt, byteInt]

/-- Settles O51: the decoder's three places and its sign are read off the bytes of `numToBytes_toNat`. -/
theorem numberCodecInverse : Obligations.NumberCodecInverse := by
  intro n hlo hhi
  have hbytes := numToBytes_toNat n (by omega)
  refine ⟨?_, hbytes⟩
  simp only [numToBytes, List.map_cons, List.cons.injEq] at hbytes
  obtain ⟨h0, h1, h2, -⟩ := hbytes
  rw [numToBytes, bytesToNum_four, h0, h1, h2]
  by_cases hn : n < 0
  · rw [if_pos hn, if_pos rfl]; omega
  · rw [if_neg hn, if_neg (by decide)]; omega

/-- The multiple of 5 within 2 of a number is its rounding (30_encoding.md R99, step 1). -/
theorem round5_eq (v r : Int) (h5 : r % 5 = 0) (hlo : v - 2 ≤ r) (hhi : r ≤ v + 2) : round5 v = r := by
  unfold round5; omega

/-- Settles O52: for a rounded setpoint of the domain the truncating division is exact and its byte does not wrap. -/
theorem setpointCodecRoundTrip : Obligations.SetpointCodecRoundTrip := by
  refine ⟨fun v r h5 hlo hhi h0 hmax => ?_, fun b => rfl⟩
  have hq : (r + 3).tdiv 5 = r / 5 := by rw [Int.tdiv_eq_ediv_of_nonneg (by omega)]; omega
  have hbyte : ((setpointByte v).toNat : Int) = r / 5 + 28 := by
    rw [setpointByte, round5_eq v r h5 hlo hhi, hq, lo8, BitVec.toNat_ofInt]
    omega
  refine ⟨hbyte, ?_⟩
  rw [setpointOfByte, byteInt, hbyte]
  omega

/-! ## The wire rows -/

/-- Settles O1: a wire row of the peer is the arrival of its bytes, by definition of the row (log 2). -/
theorem wireArrivalsAppendToRx : Obligations.WireArrivalsAppendToRx :=
  fun _ => ⟨rfl, rfl, rfl, rfl, rfl, fun _ => rfl⟩

/-- Settles O4: the encoded frame, with the bytes of the payload written out. -/
theorem encodeFrameLayout : Obligations.EncodeFrameLayout := by
  intro s code p
  simp [exec, execEncodeFrame, putRet, encodeFrame, payloadBytes, Payload.bytes]

/-- A frame offered to the idle link with a code of legal length goes out (40_transport.md R131). -/
theorem offered_idle (code : Code) (p : Option Payload) (s : State) (h : s.ftState = .idle) (h1 : 1 ≤ code.length)
    (h2 : code.length ≤ maxCmdLen) :
    (.next (returned (sendFrame code p s)) : Out) =
      .next { linkSent s (sentState p) (encodeFrame code p) with ret := .result .ack } := by
  rw [sendFrame, (StateElements.sendRow_ok_iff s code).mpr ⟨h, h1, h2⟩]
  rfl

/-- A frame offered to a link that is not idle is refused with `Busy`, whatever its code is (40_transport.md R130). -/
theorem offered_not_idle (code : Code) (p : Option Payload) (s : State) (h : s.ftState ≠ .idle) :
    (.next (returned (sendFrame code p s)) : Out) = .next { s with ret := .result .busy } := by
  have hrow : sendRow s code = .busy := if_pos h
  rw [sendFrame, hrow]
  rfl

/-- Settles O2: the four frames are offers of `send_frame` (log 2), and their codes have 1 or 2 bytes. -/
theorem framesOfferedToTheLink : Obligations.FramesOfferedToTheLink := by
  intro s c d p
  have h1 : 1 ≤ [c].length ∧ [c].length ≤ maxCmdLen := by simp
  have h2 : 1 ≤ [c, d].length ∧ [c, d].length ≤ maxCmdLen := by simp
  exact ⟨fun hi => ⟨offered_idle [c] none s hi h1.1 h1.2, offered_idle [c, d] none s hi h2.1 h2.2,
      offered_idle [c] (some p) s hi h1.1 h1.2, offered_idle [c, d] (some p) s hi h2.1 h2.2⟩,
    fun hn => ⟨offered_not_idle [c] none s hn, offered_not_idle [c, d] none s hn,
      offered_not_idle [c] (some p) s hn, offered_not_idle [c, d] (some p) s hn⟩⟩

/-- Settles O43: the decoder runs on the seven words. -/
theorem decodesWordsWrittenFromTheSpec : Obligations.DecodesWordsWrittenFromTheSpec :=
  ⟨by decide, by decide, by decide, by decide, by decide, by decide, by decide⟩

end Sys2Proof.Encoding
end

section
/-! PROOFS. The transport (40_transport.md): the receive handler that a byte selects, the byte loop and the other cases of
`service`, `send_frame`, and what a tick makes of a timer that has run out. -/

namespace Sys2Proof.Transport

open Sys2Proof.Machine Sys2Proof.Safety

theorem select_beq {α : Type} [BEq α] [LawfulBEq α] {x y : α} (h : x = y) (t : State) : select (x == y) t = .next t := by
  rw [beq_iff_eq.mpr h, select_true]

/-! ## The receive row selected -/

/-- The operation of a row of the receive state machine, for the byte `b`. -/
def rowOperation (row : RxRow) (b : Byte) : Instr :=
  match row with
  | .qackAck => .rxQackAck
  | .qackNak => .rxQackNak
  | .qackOther => .rxQackOther b
  | .cackAck => .rxCackAck
  | .cackNak => .rxCackNak
  | .cackOther => .rxCackOther b
  | .qstxStx => .rxQstxStx
  | .qstxAck => .rxQstxAck
  | .qstxOther => .rxQstxOther b
  | .qetxData => .rxQetxData b
  | .etxEmpty => .rxQetxEtxEmpty
  | .etxGood => .rxQetxEtxGood
  | .etxBad => .rxQetxEtxBad
  | .notConsumed => .rxNotConsumed b

/-- The byte a row is about: a fixed one, or `b` where the row's operation carries its byte. -/
def rowByte (row : RxRow) (b : Byte) : Byte :=
  match row with
  | .qackAck | .cackAck | .qstxAck => ackByte
  | .qackNak | .cackNak => nakByte
  | .qstxStx => stxByte
  | .etxEmpty | .etxGood | .etxBad => etxByte
  | .qackOther | .cackOther | .qstxOther | .qetxData | .notConsumed => b

/-- A row's operation is the row, where the row's byte selects it. -/
theorem exec_rowOperation (row : RxRow) (b : Byte) (s : State) :
    exec (rowOperation row b) s = select (rxRow s (rowByte row b) == row) (rxReturned (runRx row b s)) := by
  cases row <;> rfl

section LinkStates

variable {s : State} (b : Byte)

theorem rxRow_queryAck (h : s.ftState = .queryAck) :
    rxRow s b = if b = ackByte then .qackAck else if b = nakByte then .qackNak else .qackOther := by
  rw [rxRow, h]

theorem rxRow_commandAck (h : s.ftState = .commandAck) :
    rxRow s b = if b = ackByte then .cackAck else if b = nakByte then .cackNak else .cackOther := by
  rw [rxRow, h]

theorem rxRow_queryStx (h : s.ftState = .queryStx) :
    rxRow s b = if b = stxByte then .qstxStx else if b = ackByte then .qstxAck else .qstxOther := by
  rw [rxRow, h]

theorem rxRow_queryEtx (h : s.ftState = .queryEtx) :
    rxRow s b =
      if b = etxByte then if s.ftBuf = [] then .etxEmpty else if frameOk s.ftBuf then .etxGood else .etxBad
      else .qetxData := by
  rw [rxRow, h]

theorem rxRow_notReceiving (h : s.ftState = .idle ∨ s.ftState = .cooldown) : rxRow s b = .notConsumed := by
  rcases h with h | h <;> rw [rxRow, h]

end LinkStates

theorem rxRow_etxEmpty {s : State} (h : s.ftState = .queryEtx) (hb : s.ftBuf = []) : rxRow s etxByte = .etxEmpty := by
  rw [rxRow_queryEtx _ h, if_pos rfl, if_pos hb]

/-- The `ETX` of a frame whose buffered bytes are `body` and the trailing byte `t` (40_transport.md R149, R151). -/
theorem rxRow_frameEnd {s : State} {body : List Byte} {t : Byte} (h : s.ftState = .queryEtx) (hb : s.ftBuf = body ++ [t]) :
    rxRow s etxByte = if t = checksum body then .etxGood else .etxBad := by
  rw [rxRow_queryEtx _ h, if_pos rfl, hb, if_neg (by simp), frameOk_append]
  simp only [decide_eq_true_eq]

/-- A selected row is about the byte that selects it, and its operation is the one the spec names for that byte
(40_transport.md R152). -/
theorem rxRow_selects (s : State) (b : Byte) :
    rowByte (rxRow s b) b = b ∧ rxOperation s b = rowOperation (rxRow s b) b := by
  cases hs : s.ftState
  case queryAck | commandAck | queryStx | queryEtx =>
    simp only [rxRow, rxOperation, hs]
    split_ifs <;> simp_all [rowByte, rowOperation, frameOk]
  case idle | cooldown =>
    rw [rxRow_notReceiving b (by simp [hs]), rxOperation, hs]
    exact ⟨rfl, rfl⟩

/-- The operation of the selected row does what the row does. -/
theorem exec_selectedRow (row : RxRow) (b : Byte) {s : State} (h : rxRow s b = row) :
    exec (rowOperation row b) s = .next (rxReturned (runRx row b s)) := by
  subst h
  rw [exec_rowOperation, (rxRow_selects s b).1, select_beq rfl]

/-- Settles O13: dispatching runs the selected row, and so does that row's operation (`exec_selectedRow`). -/
theorem rxDispatchRunsTheSelectedHandler : Obligations.RxDispatchRunsTheSelectedHandler := by
  intro s b
  refine ⟨?_, ⟨_, rfl⟩, fun h => exec_selectedRow .notConsumed b (rxRow_notReceiving b h)⟩
  rw [(rxRow_selects s b).2, exec_selectedRow _ b rfl]
  rfl

/-- Settles O8: the three rows of `QueryAck`. -/
theorem queryAckBytes : Obligations.QueryAckBytes := fun _ hs =>
  ⟨exec_selectedRow .qackAck ackByte (rxRow_queryAck _ hs),
   exec_selectedRow .qackNak nakByte (rxRow_queryAck _ hs),
   fun b h1 h2 => exec_selectedRow .qackOther b (by rw [rxRow_queryAck b hs, if_neg h1, if_neg h2])⟩

/-- Settles O9: the three rows of `CommandAck`. -/
theorem commandAckBytes : Obligations.CommandAckBytes := fun _ hs =>
  ⟨exec_selectedRow .cackAck ackByte (rxRow_commandAck _ hs),
   exec_selectedRow .cackNak nakByte (rxRow_commandAck _ hs),
   fun b h1 h2 => exec_selectedRow .cackOther b (by rw [rxRow_commandAck b hs, if_neg h1, if_neg h2])⟩

/-- Settles O10: the three rows of `QueryStx`. -/
theorem queryStxBytes : Obligations.QueryStxBytes := fun _ hs =>
  ⟨exec_selectedRow .qstxStx stxByte (rxRow_queryStx _ hs),
   exec_selectedRow .qstxAck ackByte (rxRow_queryStx _ hs),
   fun b h1 h2 => exec_selectedRow .qstxOther b (by rw [rxRow_queryStx b hs, if_neg h1, if_neg h2])⟩

/-- Settles O11: the data row appends the byte where the buffer has room for it, and else it is the overflow. -/
theorem queryEtxDataByte : Obligations.QueryEtxDataByte := by
  intro s b hs hb
  have hexec : exec (.rxQetxData b) s = .next (rxReturned (rxData b s)) :=
    exec_selectedRow .qetxData b (by rw [rxRow_queryEtx b hs, if_neg hb])
  rw [hexec, rxData]
  refine ⟨fun hroom => ?_, fun hfull => ?_⟩
  · rw [if_pos hroom]; rfl
  · rw [if_neg (Nat.not_lt.mpr hfull)]; rfl

/-- Settles O12: the rows of `ETX` on an empty buffer and on one whose trailing byte is or is not the checksum. -/
theorem queryEtxFrameEnd : Obligations.QueryEtxFrameEnd := by
  intro s hs
  refine ⟨fun hb => exec_selectedRow .etxEmpty etxByte (rxRow_etxEmpty hs hb),
    fun body t hb => ⟨fun ht => ?good, fun ht => ?bad⟩⟩
  case good =>
    have hexec : exec .rxQetxEtxGood s = .next (rxReturned (rxFrameGood s)) :=
      exec_selectedRow .etxGood etxByte (by rw [rxRow_frameEnd hs hb, if_pos ht])
    rw [hexec, rxFrameGood, hb, List.dropLast_concat]
    rfl
  case bad => exact exec_selectedRow .etxBad etxByte (by rw [rxRow_frameEnd hs hb, if_neg ht])

/-- Settles O14: `complete` by definition, and the echo where an `ETX` would select the row of a good frame. -/
theorem completeAndAckEcho : Obligations.CompleteAndAckEcho := fun _ =>
  ⟨rfl, rfl, rfl, fun _ hs hb => select_beq (by rw [rxRow_frameEnd hs hb, if_pos rfl]) _⟩

/-! ## send_frame -/

theorem sendRow_busy {s : State} (code : Code) (h : s.ftState ≠ .idle) : sendRow s code = .busy := if_pos h

theorem sendRow_badLen {s : State} {code : Code} (h : s.ftState = .idle) (hl : code.length = 0 ∨ maxCmdLen < code.length) :
    sendRow s code = .badLen := by
  rw [sendRow, if_neg (not_not.mpr h), if_neg (by omega)]

/-- Settles O5: each row of `send_frame` where it is selected, and the bytes of the frame. -/
theorem sendFrameThreeCases : Obligations.SendFrameThreeCases := by
  intro s code p
  refine ⟨fun h _ => select_beq (sendRow_busy code h) _, fun h h1 h2 => ?sent,
    fun h hl _ => select_beq (sendRow_badLen h hl) _⟩
  case sent =>
    have hsent : ∀ q, exec (.sendFrameOk code q) s =
        .next { linkSent s (sentState q) (encodeFrame code q) with ret := .result .ack } :=
      fun _ => select_beq ((StateElements.sendRow_ok_iff s code).mpr ⟨h, h1, h2⟩) _
    rw [hsent none, hsent (some p)]
    simp [encodeFrame, payloadBytes, Payload.bytes, sentState]

/-! ## The cases of service -/

section Service

variable {s : State}

theorem not_elapsed {since : Time} {interval : Nat} (h : (s.now - since).toNat < interval) :
    elapsed s since interval = false :=
  Bool.eq_false_iff.mpr (mt (elapsed_iff s since interval).mp (Nat.not_le.mpr h))

theorem service_idle (h : s.ftState = .idle) : service s = (.idle, s) := by
  rw [service, serviceRow, h]

theorem service_cooldown (h : s.ftState = .cooldown) : service s = serviceCooldown s := by
  rw [service, serviceRow, h]

theorem service_cooled (h : s.ftState = .cooldown) (ht : s.ftCool ≤ (s.now - s.ftTLast).toNat) :
    service s = (.idle, returnToIdle s) := by
  rw [service_cooldown h, serviceCooldown, if_pos ((elapsed_iff _ _ _).mpr ht)]

theorem service_cooling (h : s.ftState = .cooldown) (ht : (s.now - s.ftTLast).toNat < s.ftCool) :
    service s = (.busy, s) := by
  simp only [service_cooldown h, serviceCooldown, not_elapsed ht, Bool.false_eq_true, if_false]

theorem service_timeout (h : s.ftState.receiving = true) (ht : s.cfg.tResponse ≤ (s.now - s.ftTLast).toNat) :
    service s = (.timeout, returnToIdle s) := by
  rw [service, serviceRow_receiving s _ h, if_pos ((elapsed_iff _ _ _).mpr ht)]
  rfl

theorem service_receive (h : s.ftState.receiving = true) (ht : (s.now - s.ftTLast).toNat < s.cfg.tResponse) :
    service s = rxLoop s.rx s := by
  simp only [service, serviceRow_receiving s _ h, not_elapsed ht, Bool.false_eq_true, if_false, serviceReceive]

end Service

/-- The operation a state selects for `service` does what `service` does (`exec_serviceOperation`). -/
theorem exec_of_service {s : State} {i : Instr} {x : Result × State} (hi : serviceOperation s = i) (hx : service s = x) :
    exec i s = .next (returned x) := by
  rw [← hi, exec_serviceOperation, hx]

/-- Settles O6: each case of `service` that reads no byte, where it is the operation that the state selects. -/
theorem serviceWithoutReadingBytes : Obligations.ServiceWithoutReadingBytes := by
  intro s
  have hcooldown (h : s.ftState = .cooldown) : serviceOperation s = .serviceCooldown := by
    rw [serviceOperation, if_neg (by simp [h]), if_pos h]
  refine ⟨fun h => exec_of_service (if_pos h) (service_idle h), fun h ht => exec_of_service (hcooldown h) (service_cooled h ht),
    fun h ht => exec_of_service (hcooldown h) (service_cooling h ht), fun hi hc ht => ?timeout⟩
  case timeout =>
    have hselected : serviceOperation s = .serviceTimeout := by
      rw [serviceOperation, if_neg hi, if_neg hc, if_pos ht]
    exact exec_of_service hselected (service_timeout ((receiving_iff _).mpr ⟨hi, hc⟩) ht)

/-- Settles O7: a turn of the byte loop is the handler (`rxLoop_goOn`, `rxLoop_done`); where the handler continues, the time stamp
keeps the response timer running and the return register is not read (`rxLoop_putRet`). -/
theorem serviceConsumesRxByteByByte : Obligations.ServiceConsumesRxByteByByte := by
  intro s hi hc hpos ht
  have hr : s.ftState.receiving = true := (receiving_iff _).mpr ⟨hi, hc⟩
  have hexec := Encoding.exec_serviceReceive s hr ht
  refine ⟨⟨_, hexec⟩, fun hrx => ?empty, fun b rest hrx =>
    ⟨rxReturned (handleRx b (rxConsume rest s)), rfl, ?popped, ?goOn, ?done⟩⟩
  case empty =>
    have hend : rxLoop s.rx s = (.busy, s) := by rw [hrx, rxLoop]
    rw [hexec, hend]
    rfl
  case popped => simp [rxReturned]
  case goOn =>
    intro hret
    cases hb : (handleRx b (rxConsume rest s)).1 with
    | done r => simp [rxReturned, hb, rxRet] at hret
    | goOn =>
      have hnext := Encoding.exec_serviceReceive (rxReturned (handleRx b (rxConsume rest s)))
        (handleRx_goOn_receiving b _ hb hr) (by simpa [rxReturned] using hpos)
      rw [hexec, hrx, rxLoop_goOn b rest s hb, hnext]
      simp [rxReturned, rxLoop_putRet, returned]
  case done =>
    intro r hret
    cases hb : (handleRx b (rxConsume rest s)).1 with
    | goOn => simp [rxReturned, hb, rxRet] at hret
    | done r' => rw [hexec, hrx, rxLoop_done b rest s r' hb, rxReturned, hb]; rfl

/-- Settles O58: the cases of `service`; for the byte loop, `rxLoop_result`. -/
theorem serviceResultsByLinkState : Obligations.ServiceResultsByLinkState := by
  intro s
  refine ⟨returned (service s), (service s).1, exec_serviceOperation s, rfl, ?_⟩
  by_cases hr : s.ftState.receiving = true
  · by_cases ht : s.cfg.tResponse ≤ (s.now - s.ftTLast).toNat
    · simp [service_timeout hr ht, returned, hr]
    · rw [service_receive hr (Nat.lt_of_not_le ht)]
      rcases rxLoop_result s.rx s hr with ⟨h, hl⟩ | ⟨h | ⟨h, hq⟩, hl, hcool⟩ | ⟨h, hl, hcool⟩
      · simp [returned, h, hr, hl]
      · simp [returned, h, hr, hl, hcool]
      · simp [returned, h, hq, hl, hcool]
      · simp [returned, h, hr, hl, hcool]
  · have hfree : s.ftState = .idle ∨ s.ftState = .cooldown := by
      rw [receiving_iff] at hr; tauto
    rcases hfree with h | h
    · simp [service_idle h, returned, h]
    · by_cases ht : s.ftCool ≤ (s.now - s.ftTLast).toNat
      · simp only [service_cooled h ht, returned]
        simpa [h] using ht
      · simp [service_cooling h (Nat.lt_of_not_le ht), returned, h]

/-! ## A tick whose timer has run out -/

/-- A tick is the reaction to the result of its `service`, and the report (41_scheduler.md R172). -/
theorem exec_tick_of_service {now : Time} {s t : State} {r : Result} (h : service (setNow now s) = (r, t)) :
    exec (.tick now) s = .next (putRet .nothing (reportResult r (react r t))) := by
  simp only [exec, execTick, tickOnce, h]

/-- Settles O60: the `service` of the tick is the case of the timer that has run out, or of the one that runs. -/
theorem expiredTimersFreeTheLink : Obligations.ExpiredTimersFreeTheLink := by
  intro s t
  refine ⟨fun hr ht => ?timeout, fun h ht => ?cooled, fun h ht => ?cooling⟩
  case timeout => rw [exec_tick_of_service (service_timeout (s := setNow t s) hr ht)]; rfl
  case cooled =>
    rw [exec_tick_of_service (service_cooled (s := setNow t s) h ht),
      exec_tick_of_service (service_idle (s := setNow t { s with ftState := .idle }) rfl)]
    rfl
  case cooling => rw [exec_tick_of_service (service_cooling (s := setNow t s) h ht)]; rfl

end Sys2Proof.Transport
end

section
/-! PROOFS. The scheduler (41_scheduler.md): the transmit selector and `send`, the reaction to a NAK, a tick as a whole, and the host
operations. -/

namespace Sys2Proof.Scheduler

open Sys2Proof.Machine Sys2Proof.Safety

/-! ## send -/

section Send

variable {s : State} {code : Code} (p : Option Payload)

theorem send_not_idle (code : Code) (h : s.ftState ≠ .idle) : send code p s = (.busy, s) := by
  rw [send, sendFrame, Transport.sendRow_busy code h]

theorem send_badLen (h : s.ftState = .idle) (hl : code.length = 0 ∨ maxCmdLen < code.length) :
    send code p s = (.error, s) := by
  rw [send, sendFrame, Transport.sendRow_badLen h hl]

theorem send_idle (h : s.ftState = .idle) (h1 : 1 ≤ code.length) (h2 : code.length ≤ maxCmdLen) :
    send code p s = (.ack, { linkSent s (sentState p) (encodeFrame code p) with txCmd := code }) := by
  rw [send, sendFrame, (StateElements.sendRow_ok_iff s code).mpr ⟨h, h1, h2⟩]
  rfl

end Send

/-- Settles O27: the three cases of `send` beside those of `send_frame`. -/
theorem sendRecordsOnlySentCodes : Obligations.SendRecordsOnlySentCodes := by
  intro s code p
  refine ⟨fun h h1 h2 => ⟨{ linkSent s (sentState p) (encodeFrame code p) with ret := .result .ack }, ?frame, ?sent⟩,
    fun h => ?busy, fun h hl => ?badLen⟩
  case frame => exact Transport.select_beq ((StateElements.sendRow_ok_iff s code).mpr ⟨h, h1, h2⟩) _
  case sent => rw [exec, execSend, send_idle p h h1 h2]; rfl
  case busy => rw [exec, execSend, send_not_idle p code h]; rfl
  case badLen => rw [exec, execSend, send_badLen p h hl]; rfl

/-! ## The arms of the selector -/

/-- The operation of an arm (41_scheduler.md R178 to R182). -/
def armInstr : TxArm → Instr
  | .climate => .cmdClimate
  | .swing => .cmdSwing
  | .continueScan => .queryContinue
  | .startScan => .queryStart
  | .nothing => .idleNothing

theorem armOperation_eq (s : State) : armOperation s = armInstr (txArm s) := by
  unfold armOperation txArm
  split_ifs <;> rfl

/-- An arm's operation is the arm, where it is selected. -/
theorem exec_armInstr (a : TxArm) (s : State) :
    exec (armInstr a) s = select (txArm s == a) (putRet .nothing (runArm a s)) := by
  cases a <;> rfl

theorem exec_selectedArm {a : TxArm} {s : State} (h : txArm s = a) :
    exec (armInstr a) s = .next (putRet .nothing (runArm a s)) := by
  rw [exec_armInstr, Transport.select_beq h]

section Selected

variable {s : State}

theorem txArm_climate (hc : s.activateClimate = true) : txArm s = .climate := if_pos hc

theorem txArm_swing (hc : s.activateClimate = false) (hs : s.activateSwingMode = true) : txArm s = .swing := by
  simp [txArm, hc, hs]

theorem txArm_continueScan (hc : s.activateClimate = false) (hs : s.activateSwingMode = false)
    (hcur : s.cursor < s.pool.length) : txArm s = .continueScan := by
  simp [txArm, hc, hs, hcur]

theorem txArm_startScan (hc : s.activateClimate = false) (hs : s.activateSwingMode = false)
    (hcur : s.pool.length ≤ s.cursor) (hr : s.refreshRequested = true) : txArm s = .startScan := by
  simp [txArm, hc, hs, hr, Nat.not_lt.mpr hcur]

theorem txArm_nothing (hc : s.activateClimate = false) (hs : s.activateSwingMode = false)
    (hcur : s.pool.length ≤ s.cursor) (hr : s.refreshRequested = false) : txArm s = .nothing := by
  simp [txArm, hc, hs, hr, Nat.not_lt.mpr hcur]

end Selected

/-- A selected arm whose last act is a `send` from the state `u`: with the link idle the frame goes out and its code is recorded,
else `u` is all that the arm leaves (41_scheduler.md R183). -/
theorem exec_sendingArm {a : TxArm} {s u : State} {code : Code} {p : Option Payload} (ha : txArm s = a)
    (hrun : runArm a s = sendIgnored code p u) (h1 : 1 ≤ code.length) (h2 : code.length ≤ maxCmdLen) :
    (u.ftState = .idle → exec (armInstr a) s =
      .next { linkSent u (sentState p) (encodeFrame code p) with txCmd := code, ret := .nothing }) ∧
    (u.ftState ≠ .idle → exec (armInstr a) s = .next { u with ret := .nothing }) := by
  rw [exec_selectedArm ha, hrun, sendIgnored]
  refine ⟨fun h => ?_, fun h => ?_⟩
  · rw [send_idle p h h1 h2]; rfl
  · rw [send_not_idle p code h]; rfl

/-! ## The command arms -/

theorem encodeFrame_command (code : Code) (p : Payload) :
    encodeFrame code (some p) = [stxByte] ++ code ++ p.bytes ++ [checksum (code ++ p.bytes)] ++ [etxByte] := by
  simp [encodeFrame, payloadBytes]

theorem encodeFrame_query (code : Code) : encodeFrame code none = [stxByte] ++ code ++ [checksum code] ++ [etxByte] := by
  simp [encodeFrame, payloadBytes]

/-- The basic-state command's bytes, with the rounded setpoint named (30_encoding.md R99, R107). -/
theorem climatePayload_bytes (c : Config) (x : Climate) (r : Int) (h5 : r % 5 = 0) (hlo : x.setpoint.toInt - 2 ≤ r)
    (hhi : r ≤ x.setpoint.toInt + 2) :
    (climatePayload c x).bytes =
      [powerByte x.powerOn, c.modeByte x.mode, lo8 (Int.tdiv (r + 3) 5 + 28), c.fanByte x.fan] := by
  rw [climatePayload, Payload.bytes, setpointByte, Encoding.round5_eq _ r h5 hlo hhi]

/-- Settles O28: the arm is a `send` of the command, and the setpoint byte is that of the one multiple of 5 in reach. -/
theorem climateArmSendsTheBasicStateCommand : Obligations.ClimateArmSendsTheBasicStateCommand := by
  intro s r pl hc hl h5 hlo hhi hpl
  have hbytes : pl = (climatePayload s.cfg s.pending).bytes := hpl.trans (climatePayload_bytes _ _ r h5 hlo hhi).symm
  rw [hbytes, ← encodeFrame_command]
  exact exec_sendingArm (txArm_climate hc) rfl (by omega) (Nat.le_of_eq hl)

/-- Settles O29: the arm is a `send` of the command, and the packing is evaluated for the four settings of the axes. -/
theorem swingArmSendsTheSwingCommand : Obligations.SwingArmSendsTheSwingCommand := by
  intro s pl hc hs hl hpl
  have hbytes : pl = (swingPayload s.pending.swingV s.pending.swingH).bytes := by
    rw [hpl]
    cases s.pending.swingV <;> cases s.pending.swingH <;> rfl
  rw [hbytes, ← encodeFrame_command]
  exact exec_sendingArm (txArm_swing hc hs) rfl (by omega) (Nat.le_of_eq hl)

/-! ## The scan arms -/

/-- Settles O30: the arm is a `send` of the entry at the cursor. -/
theorem continueArmResendsTheCurrentQuery : Obligations.ContinueArmResendsTheCurrentQuery := by
  intro s q hc hs hcur hq h1 h2
  have hrun : runArm .continueScan s = sendIgnored q none s := by
    rw [runArm, continueScan, List.getD_eq_getElem?_getD, hq, Option.getD_some]
  rw [← encodeFrame_query]
  exact exec_sendingArm (txArm_continueScan hc hs hcur) hrun h1 h2

/-- The pool that a restarted scan begins with (41_scheduler.md R181, 20_memory.md R74). -/
theorem scanStarted_eq (s : State) :
    scanStarted s = { s with
      pool := if s.supportRH = true ∧ s.supportRa = true then s.pool.erase s.cfg.qTempCombined else s.pool
      cursor := 0
      refreshRequested := false } := by
  simp [scanStarted, bothSensors, removeValue_eq_erase]

theorem startScan_nil {s : State} (h : (scanStarted s).pool = []) : startScan s = scanStarted s := by
  rw [startScan, h]

theorem startScan_cons {s : State} {q : Code} {rest : List Code} (h : (scanStarted s).pool = q :: rest) :
    startScan s = sendIgnored q none (scanStarted s) := by
  rw [startScan, h]

/-- Settles O31: the arm is the restart, and where a query is left a `send` of the first one from the restarted state. -/
theorem startArmPrunesAndRestartsTheScan : Obligations.StartArmPrunesAndRestartsTheScan := by
  intro s pool' hc hs hcur hr hpool
  have harm : txArm s = .startScan := txArm_startScan hc hs (Nat.le_of_eq hcur.symm) hr
  have hstarted := scanStarted_eq s
  rw [← hpool] at hstarted
  have hstartedPool : (scanStarted s).pool = pool' := by rw [hstarted]
  refine ⟨fun hnil => ?nil, fun q rest hcons h1 h2 => ?cons⟩
  case nil =>
    have hexec := exec_selectedArm harm
    rw [runArm, startScan_nil (hstartedPool.trans hnil), hstarted, hnil] at hexec
    exact hexec
  case cons =>
    rw [← encodeFrame_query]
    have hexec := exec_sendingArm harm (startScan_cons (hstartedPool.trans hcons)) h1 h2
    rw [hstarted] at hexec
    exact hexec

/-! ## The selector -/

theorem exec_armOperation (s : State) : exec (armOperation s) s = .next (putRet .nothing (txNext s)) := by
  rw [armOperation_eq, exec_selectedArm rfl, txNext]

/-- With the link not idle no arm transmits (40_transport.md R130). -/
theorem txNext_tx_of_not_idle (s : State) (h : s.ftState ≠ .idle) : (txNext s).tx = s.tx := by
  unfold txNext
  cases txArm s
  case nothing => rfl
  case startScan =>
    cases hp : (scanStarted s).pool with
    | nil => rw [runArm, startScan_nil hp]; rfl
    | cons q rest => rw [runArm, startScan_cons hp, sendIgnored, send_not_idle none q (s := scanStarted s) h]; rfl
  all_goals
    simp only [runArm, sendClimate, sendSwing, continueScan, sendIgnored, send_not_idle _ _ h]

/-- Settles O32: the arm of the priority is the one `tx_next` runs, and it sends by one `send` at most, from the idle link alone. -/
theorem selectorFiresOneArmByPriority : Obligations.SelectorFiresOneArmByPriority := by
  intro s
  refine ⟨⟨putRet .nothing (txNext s), rfl, exec_armOperation s, ?transmits⟩,
    fun hc hs hcur hr => exec_selectedArm (txArm_nothing hc hs hcur hr)⟩
  case transmits =>
    by_cases hi : s.ftState = .idle
    · rcases StateElements.txNext_tx s with h | ⟨code, p, h1, h2, htx, -⟩
      · exact .inl h
      · exact .inr ⟨hi, code, p, h1, h2, htx⟩
    · exact .inl (txNext_tx_of_not_idle s hi)

/-! ## The reaction to a NAK -/

section Nak

variable {s : State}

theorem exec_handleNakQuery (h : s.cursor < s.pool.length ∧ s.pool[s.cursor]? = some s.txCmd) :
    exec .handleNakQuery s = .next (putRet .nothing (dropQuery s)) := by
  rw [exec, execHandleNakQuery, (nakIsQuery_iff s).mpr h, select_true]

theorem handleNak_of_not_query (h : ¬ (s.cursor < s.pool.length ∧ s.pool[s.cursor]? = some s.txCmd)) :
    handleNak s = parseAck s := if_neg (mt (nakIsQuery_iff s).mp h)

/-- Where the refused frame is not the current query, the reaction is that to an acknowledgment (41_scheduler.md R186). -/
theorem exec_handleNakCommand (h : ¬ (s.cursor < s.pool.length ∧ s.pool[s.cursor]? = some s.txCmd)) :
    exec .handleNakCommand s = .next (putRet .nothing (parseAck s)) := by
  have hexec := exec_reactionOperation .nak s
  rw [reactionOperation, if_neg h, react, handleNak_of_not_query h] at hexec
  exact hexec

/-- A bare acknowledgment of a row's code runs that row's handler, if it asks for no payload (42_decoder.md R210, R213). -/
theorem parseAck_bare (f : Family) (hm : familyMin f = 0) (hb : s.ftBuf = []) (hd : s.cfg.codes.Nodup)
    (hc : s.txCmd = familyCode s.cfg f) : parseAck s = runFamily f [] s := by
  rw [parseAck, if_pos hb, parseAckBare, hc, dispatchRsp_familyCode s hd, hm, if_pos (Nat.zero_le _)]

end Nak

/-- With distinct entries the erased one is in the pool no more (41_scheduler.md R189). -/
theorem not_mem_poolErase {pool : List Code} {i : Nat} {q : Code} (hd : pool.Nodup) (hq : pool[i]? = some q) :
    q ∉ poolErase pool i := by
  obtain ⟨hi, rfl⟩ := List.getElem?_eq_some_iff.mp hq
  rw [poolErase_eq_eraseIdx, ← hd.erase_getElem i hi]
  exact hd.not_mem_erase

/-- Settles O33: what erasing at the cursor leaves at each index. -/
theorem nakRemovesTheCurrentQuery : Obligations.NakRemovesTheCurrentQuery := by
  intro s hcur hq
  refine ⟨poolErase s.pool s.cursor, exec_handleNakQuery ⟨hcur, hq⟩, poolErase_length _ _ hcur, fun i hi => ?before,
    fun i hi => ?after, fun hd => not_mem_poolErase hd hq⟩
  case before => rw [poolErase_getElem?, if_pos hi]
  case after => rw [poolErase_getElem?, if_neg (Nat.not_lt.mpr hi)]

/-- Settles O34: `handle_nak` is `parse_ack` here, and a bare `parse_ack` of a command is its echo handler. -/
theorem nakOfACommandAppliesItLocally : Obligations.NakOfACommandAppliesItLocally := by
  intro s h
  have hack := exec_reactionOperation .ack s
  rw [reactionOperation] at hack
  rw [exec_handleNakCommand h]
  refine ⟨fun hb => ⟨_, rfl, ?bare⟩, fun hb => ⟨_, rfl, ?split⟩, fun hb hd hc => ?climate, fun hb hd hc => ?swing⟩
  case bare => rw [if_pos hb] at hack; exact hack
  case split => rw [if_neg hb] at hack; exact hack
  case climate => rw [parseAck_bare .echoClimate rfl hb hd hc]; rfl
  case swing => rw [parseAck_bare .echoSwing rfl hb hd hc]; rfl

/-! ## A tick -/

/-- The events of a reaction: log events, and for `Timeout` the result (60_exceptions.md R256, R268). -/
theorem react_report (r : Result) (s : State) :
    ∃ logs, (react r s).report = s.report ++ logs ++ (if r = .timeout then [.tickResult .timeout] else []) ∧
      ∀ e ∈ logs, ∀ r', e ≠ .tickResult r' := by
  cases r
  case ack => simpa [react] using parseAck_report s
  case nak =>
    simp only [react, handleNak]
    split
    · exact ⟨[], by simp [dropQuery], by simp⟩
    · simpa using parseAck_report s
  all_goals exact ⟨[], by simp [react], by simp⟩

theorem reportResult_eq (r : Result) (s : State) :
    reportResult r s = { s with report := s.report ++ (if r = .timeout then [] else [.tickResult r]) } := by
  cases r
  case timeout => simp [reportResult]
  all_goals rfl

/-- Settles O38: the tick's two halves as operations (`exec_serviceOperation`, `exec_reactionOperation`); the reaction does not read
what `service` returned (`react_putRet`). -/
theorem tickIsServiceThenReaction : Obligations.TickIsServiceThenReaction := by
  intro s t
  obtain ⟨logs, hreport, hlogs⟩ := react_report (service (setNow t s)).1 (service (setNow t s)).2
  refine ⟨returned (service (setNow t s)), (service (setNow t s)).1,
    putRet .nothing (react (service (setNow t s)).1 (service (setNow t s)).2), logs, exec_serviceOperation (setNow t s), rfl,
    ?reaction, ?report, hlogs, ?tick⟩
  case reaction => rw [exec_reactionOperation, returned, react_putRet, putRet_putRet]
  case report => simpa using hreport
  case tick => rw [Transport.exec_tick_of_service rfl, reportResult_eq]; rfl

/-! ## A climate change -/

/-- The answer to a command ends the exchange (40_transport.md R141, R142). -/
theorem service_commandAnswered {s : State} {b : Byte} {rest : List Byte} {r : Result} (h : s.ftState = .commandAck)
    (ht : (s.now - s.ftTLast).toNat < s.cfg.tResponse) (hrx : s.rx = b :: rest)
    (hb : b = ackByte ∧ r = .ack ∨ b = nakByte ∧ r = .nak) :
    service s = (r, complete .turnaround (rxConsume rest s)) := by
  have hbyte : handleRx b (rxConsume rest s) = (.done r, complete .turnaround (rxConsume rest s)) := by
    rw [handleRx, Transport.rxRow_commandAck b (s := rxConsume rest s) h]
    rcases hb with ⟨rfl, rfl⟩ | ⟨rfl, rfl⟩ <;> rfl
  rw [Transport.service_receive (by rw [h]; rfl) ht, hrx, Encoding.rxLoop_of_handleRx_done hbyte]

/-- The reaction to an answer of the climate command is its echo, whether it was acknowledged or refused
(41_scheduler.md R186, R188). -/
theorem react_climateAnswer {s : State} {r : Result} (hb : s.ftBuf = []) (hd : s.cfg.codes.Nodup)
    (hc : s.txCmd = s.cfg.cmdClimate) (hr : r = .ack ∨ r = .nak ∧ s.pool[s.cursor]? ≠ some s.txCmd) :
    react r s = handleEchoClimate s := by
  have hecho : parseAck s = handleEchoClimate s := parseAck_bare .echoClimate rfl hb hd hc
  rcases hr with rfl | ⟨rfl, hnq⟩
  · exact hecho
  · exact (handleNak_of_not_query fun h => hnq h.2).trans hecho

/-- Settles O53: from Idle the tick is the climate arm; the answer to its command makes the tick the climate echo. -/
theorem climateCommandBeforeScan : Obligations.ClimateCommandBeforeScan := by
  intro s t
  refine ⟨fun hi hc hl => ?sent, fun b rest hs hbuf hcmd hd ht hrx hb => ?answered⟩
  case sent =>
    have hnext : react .idle (setNow t s) =
        (send s.cfg.cmdClimate (some (climatePayload s.cfg s.pending)) (setNow t s)).2 := by
      rw [react, txNext, txArm_climate (s := setNow t s) hc]; rfl
    rw [send_idle (s := setNow t s) _ hi (by omega) (Nat.le_of_eq hl)] at hnext
    refine ⟨_, Transport.exec_tick_of_service (Transport.service_idle hi), ?_⟩
    rw [hnext]
    exact ⟨rfl, rfl, rfl, rfl, rfl, hc⟩
  case answered =>
    obtain ⟨r, hbr, hr⟩ : ∃ r : Result, (b = ackByte ∧ r = .ack ∨ b = nakByte ∧ r = .nak) ∧
        (r = .ack ∨ r = .nak ∧ s.pool[s.cursor]? ≠ some s.txCmd) := by
      rcases hb with hb | ⟨hb, hnq⟩
      · exact ⟨.ack, .inl ⟨hb, rfl⟩, .inl rfl⟩
      · exact ⟨.nak, .inr ⟨hb, rfl⟩, .inr ⟨rfl, hnq⟩⟩
    have hreact := react_climateAnswer (s := complete .turnaround (rxConsume rest (setNow t s))) hbuf hd hcmd hr
    refine ⟨_, Transport.exec_tick_of_service (service_commandAnswered hs ht hrx hbr), ?_⟩
    rw [hreact, reportResult_eq]
    exact ⟨rfl, rfl, rfl, rfl, rfl, rfl, rfl⟩

/-! ## The host operations -/

/-- The model's check of a query set is the precondition of the initialization (41_scheduler.md R171). -/
theorem querySetOk_iff (c : Config) (q : List Code) :
    c.querySetOk q = true ↔
      (∀ e ∈ q, 1 ≤ e.length ∧ e.length ≤ maxCmdLen) ∧ q.Nodup ∧ q.length ≤ c.poolMax ∧
        (∀ e ∈ q, e ≠ c.cmdClimate ∧ e ≠ c.cmdSwing) ∧ ∀ e ∈ q, etxByte ∉ e := by
  simp only [Config.querySetOk, Bool.and_eq_true, decide_eq_true_eq, List.all_eq_true, Bool.not_eq_true',
    beq_eq_false_iff_ne, List.contains_eq_mem, decide_eq_false_iff_not, and_assoc, ne_eq]

/-- Settles O37: the initialization decides by the model's check, which is the precondition (`querySetOk_iff`). -/
theorem initializeRefusesIllegalQuerySets : Obligations.InitializeRefusesIllegalQuerySets := by
  intro s q legal hlegal
  have hok : legal ↔ s.cfg.querySetOk q = true := hlegal.trans (querySetOk_iff s.cfg q).symm
  exact ⟨fun h => ⟨_, if_pos (hok.mp h)⟩, fun h => if_neg (mt hok.mpr h)⟩

/-- Settles O39: each request is its two writes, by definition (41_scheduler.md R173 to R175). -/
theorem hostRequests : Obligations.HostRequests :=
  fun _ _ _ _ _ _ _ => ⟨rfl, rfl, rfl⟩

/-- Settles O40: the switch where diagnostics are present, and the two reads by definition. -/
theorem diagnosticSwitchAndReads : Obligations.DiagnosticSwitchAndReads :=
  fun _ _ => ⟨fun hp => if_pos hp, rfl, rfl⟩

end Sys2Proof.Scheduler
end

section
/-! PROOFS. The decoder (42_decoder.md): the fourteen handlers, `dispatch` and `parse_ack`, and what no response can do: touch the
link, or undo the gate that an individual fan-mode response sets. -/

namespace Sys2Proof.Decoder

open Sys2Proof.Machine Sys2Proof.Safety

/-! ## A handler offered a payload -/

/-- The operation of a row is the row's handler, skipped where the payload is too short (R229; log 21). -/
theorem exec_familyOperation (f : Family) (p : List Byte) (s : State) :
    exec (familyOperation f p) s = .next (putRet .nothing (if familyMin f ≤ p.length then runFamily f p s else s)) := by
  cases f
  case echoClimate | echoSwing => simp only [familyMin, Nat.zero_le, if_true]; rfl
  all_goals rfl

theorem exec_familyOperation_of_le {f : Family} {p : List Byte} (h : familyMin f ≤ p.length) (s : State) :
    exec (familyOperation f p) s = .next (putRet .nothing (runFamily f p s)) := by
  rw [exec_familyOperation, if_pos h]

theorem exec_familyOperation_of_lt {f : Family} {p : List Byte} (h : p.length < familyMin f) (s : State) :
    exec (familyOperation f p) s = .next (putRet .nothing s) := by
  rw [exec_familyOperation, if_neg (Nat.not_le.mpr h)]

/-! ## Basic state, swing and fan -/

theorem keepOr_eq_getD {α : Type} (old : α) (o : Option α) : keepOr old o = o.getD old := by
  cases o <;> rfl

theorem powerOfByte_eq (b : Byte) : powerOfByte b = decide (b = 0x31#8) := rfl

/-- Settles O15: the handler of R214, with a byte that decodes to nothing read as the old value (`keepOr_eq_getD`). -/
theorem basicStateResponse : Obligations.BasicStateResponse := by
  intro s p0 p1 p2 p3 rest
  have hexec := exec_familyOperation_of_le (f := .basic) (p := p0 :: p1 :: p2 :: p3 :: rest) (by simp [familyMin]) s
  simp only [runFamily, handleBasic, keepOr_eq_getD, powerOfByte_eq] at hexec
  exact hexec

/-- A mask of one bit reads that bit of the byte's number. -/
theorem and_twoPow_ne_zero_eq (b : Byte) {i : Nat} (hi : i < 8) :
    ((b &&& BitVec.twoPow 8 i) != 0#8) = decide (b.toNat / 2 ^ i % 2 = 1) := by
  have hne : BitVec.twoPow 8 i ≠ 0#8 := fun h => by
    have hbit := congrArg (·.getLsbD i) h
    simp [hi] at hbit
  rw [← Nat.testBit_eq_decide_div_mod_eq, BitVec.testBit_toNat, BitVec.and_twoPow]
  cases b.getLsbD i
  · rfl
  · simpa using hne

theorem swingVOfByte_eq (b : Byte) : swingVOfByte b = decide (b.toNat % 2 = 1) := by
  have hbit := and_twoPow_ne_zero_eq b (i := 0) (by decide)
  rw [pow_zero, Nat.div_one] at hbit
  exact hbit

theorem swingHOfByte_eq (b : Byte) : swingHOfByte b = decide (b.toNat / 2 % 2 = 1) :=
  and_twoPow_ne_zero_eq b (i := 1) (by decide)

/-- Settles O16: the two masks of R109 are the two lowest bits. -/
theorem swingStateResponse : Obligations.SwingStateResponse := by
  intro s p0 rest
  have hexec := exec_familyOperation_of_le (f := .swing) (p := p0 :: rest) (by simp [familyMin]) s
  simp only [runFamily, handleSwing, swingVOfByte_eq, swingHOfByte_eq] at hexec
  exact hexec

/-- Settles O17: the handlers of R216 and R217, which no flag gates. -/
theorem combinedTemperatureAndVersionResponses : Obligations.CombinedTemperatureAndVersionResponses :=
  fun s _ _ _ p => ⟨exec_familyOperation_of_le (f := .tempCombined) (by simp [familyMin]) s,
    exec_familyOperation_of_le (f := .version) (p := p) (Nat.zero_le _) s⟩

theorem handleFanMode_decoded {s : State} {b : Byte} {f : Fan} (rest : List Byte) (h : s.cfg.fanOfByte b = some f) :
    handleFanMode (b :: rest) s = { s with active := { s.active with fan := f }, supportRG := true } := by
  have hb : s.cfg.fanOfByte (byteAt (b :: rest) 0) = some f := h
  rw [handleFanMode, hb]

theorem handleFanMode_undecoded {s : State} {b : Byte} (rest : List Byte) (h : s.cfg.fanOfByte b = none) :
    handleFanMode (b :: rest) s = s := by
  have hb : s.cfg.fanOfByte (byteAt (b :: rest) 0) = none := h
  rw [handleFanMode, hb]

theorem exec_rspFanMode (b : Byte) (rest : List Byte) (s : State) :
    exec (.rspFanMode (b :: rest)) s = .next (putRet .nothing (handleFanMode (b :: rest) s)) :=
  exec_familyOperation_of_le (f := .fanMode) (by simp [familyMin]) s

/-- Settles O18: the two cases of the handler of R218. -/
theorem fanModeResponse : Obligations.FanModeResponse := by
  intro s p0 rest
  rw [exec_rspFanMode]
  refine ⟨fun f hf => ?decoded, fun hn => ?undecoded⟩
  case decoded => rw [handleFanMode_decoded rest hf]; rfl
  case undecoded => rw [handleFanMode_undecoded rest hn]; rfl

/-! ## Numbers and echoes -/

/-- `bytes_to_num` of a payload that has its three bytes (30_encoding.md R101); the fourth is the first of the others. -/
theorem bytesToNum_cons (d0 d1 d2 : Byte) (rest : List Byte) :
    bytesToNum (d0 :: d1 :: d2 :: rest) = (if rest.head? = some 0x2D#8 then -1 else 1) *
      (((d0.toNat : Int) - 48) + 10 * ((d1.toNat : Int) - 48) + 100 * ((d2.toNat : Int) - 48)) := by
  have hsign : (d0 :: d1 :: d2 :: rest)[3]? = rest.head? := List.head?_eq_getElem?.symm
  simp only [bytesToNum, hsign, digit, byteAt, byteInt, List.getD_cons_zero, List.getD_cons_succ]
  split <;> ring

/-- Settles O19: each of the seven handlers writes the number of `bytesToNum_cons`. -/
theorem numericResponses : Obligations.NumericResponses := by
  intro s d0 d1 d2 rest n hn
  rw [← bytesToNum_cons] at hn
  subst hn
  have hexec (f : Family) (hmin : familyMin f = 3) :
      exec (familyOperation f (d0 :: d1 :: d2 :: rest)) s =
        .next (putRet .nothing (runFamily f (d0 :: d1 :: d2 :: rest) s)) :=
    exec_familyOperation_of_le (by simp [hmin]) s
  exact ⟨hexec .tempInside rfl, hexec .tempCoil rfl, hexec .tempOutside rfl, hexec .fanRpm rfl, hexec .compressor rfl,
    hexec .setpoint rfl, hexec .swingAngle rfl⟩

/-- Settles O20: the echo handlers ask for no payload, so that their operations are R226 and R227. -/
theorem echoHandlers : Obligations.EchoHandlers :=
  fun s => ⟨exec_familyOperation_of_le (f := .echoClimate) (p := []) (Nat.zero_le _) s,
    exec_familyOperation_of_le (f := .echoSwing) (p := []) (Nat.zero_le _) s⟩

/-! ## dispatch -/

theorem exec_dispatch (code : Code) (p : List Byte) (s : State) :
    exec (.dispatch code p) s = .next (putRet .nothing (dispatchRsp code p s)) := rfl

/-- A row's code with too short a payload selects the skip (R213, R229). -/
theorem isShort_familyCode {c : Config} (hd : c.codes.Nodup) {f : Family} {p : List Byte} (h : p.length < familyMin f) :
    isShort c (familyCode c f) p = true := by
  simp [isShort, rspRow, familyOf_familyCode c hd f, Nat.not_le.mpr h]

theorem exec_rspShort {s : State} (hd : s.cfg.codes.Nodup) {f : Family} {p : List Byte} (h : p.length < familyMin f) :
    exec (.rspShort (familyCode s.cfg f) p) s = .next (putRet .nothing s) := by
  rw [exec, execRspShort, isShort_familyCode hd h, select_true]

theorem exec_rspUnknown {s : State} {code : Code} (h : code ∉ s.cfg.codes) (p : List Byte) :
    exec (.rspUnknown code p) s = .next (putRet .nothing (handleUnknown code p s)) :=
  Transport.select_beq (familyOf_eq_none s.cfg code h) _

theorem exec_dispatch_of_le {s : State} (hd : s.cfg.codes.Nodup) {f : Family} {p : List Byte}
    (h : familyMin f ≤ p.length) :
    exec (.dispatch (familyCode s.cfg f) p) s = .next (putRet .nothing (runFamily f p s)) := by
  rw [exec_dispatch, dispatchRsp_familyCode s hd, if_pos h]

theorem exec_dispatch_of_lt {s : State} (hd : s.cfg.codes.Nodup) {f : Family} {p : List Byte}
    (h : p.length < familyMin f) : exec (.dispatch (familyCode s.cfg f) p) s = .next (putRet .nothing s) := by
  rw [exec_dispatch, dispatchRsp_familyCode s hd, if_neg (Nat.not_le.mpr h)]

/-- Settles O22: the three operations skip the handler alike. -/
theorem shortPayloadSkipsTheHandler : Obligations.ShortPayloadSkipsTheHandler :=
  fun s _ _ hd h => ⟨exec_familyOperation_of_lt h s, exec_rspShort hd h, exec_dispatch_of_lt hd h⟩

/-- Settles O23: what `dispatch` does beside each operation it can select. -/
theorem dispatchSelectsByCode : Obligations.DispatchSelectsByCode := by
  intro s hd
  refine ⟨fun f p h => ?handler, fun f p h => ?short, fun code p h => ?unknown, fun code p => ⟨_, exec_dispatch code p s⟩⟩
  case handler => rw [exec_dispatch_of_le hd h, exec_familyOperation_of_le h]
  case short => rw [exec_dispatch_of_lt hd h, exec_rspShort hd h]
  case unknown => rw [exec_dispatch, dispatchRsp_unknown s code h, exec_rspUnknown h]

/-! ## Unknown codes -/

theorem diagnosing_iff (s : State) : diagnosing s = true ↔ s.cfg.diagPresent = true ∧ s.diagMode = true := by
  rw [diagnosing, Bool.and_eq_true]

/-- Settles O21, by the three cases of the handler; the new cache is an insertion, read back by its two lookup laws. -/
theorem unknownCodeIsASideChannel : Obligations.UnknownCodeIsASideChannel := by
  intro s code p hcode
  rw [exec_rspUnknown hcode, ← diagnosing_iff]
  have hcases := handleUnknown_cases code p s
  refine ⟨fun hoff => ?off, fun hon hint hhint => ⟨fun hsame => ?same, fun hnew => ?new⟩⟩
  case off =>
    obtain ⟨-, h⟩ | ⟨hon, -⟩ | ⟨hon, -⟩ := hcases
    · rw [h]; rfl
    · exact absurd hon hoff
    · exact absurd hon hoff
  case same =>
    obtain ⟨hoff, -⟩ | ⟨-, -, h⟩ | ⟨-, hnew, -⟩ := hcases
    · rw [hon] at hoff; cases hoff
    · rw [h, hhint]; rfl
    · exact absurd hsame hnew
  case new =>
    obtain ⟨hoff, -⟩ | ⟨-, hsame, -⟩ | ⟨-, -, h⟩ := hcases
    · rw [hon] at hoff; cases hoff
    · exact absurd hsame hnew
    · refine ⟨cacheInsert code p s.diffCache, ?_, cacheLookup_insert_self code p _,
        fun c hc => cacheLookup_insert_other code c p _ hc⟩
      rw [h, hhint]
      simp [putRet, setCache, emitEvent, unknownHint]

/-! ## parse_ack -/

/-- Settles O26: the two cases of `advance`. -/
theorem advanceStopsAtEndOfPool : Obligations.AdvanceStopsAtEndOfPool := by
  intro s
  refine ⟨fun h => ?below, fun h => ?atEnd⟩
  case below => rw [exec, execAdvance, advanceCursor, if_pos h]; rfl
  case atEnd => rw [exec, execAdvance, advanceCursor, if_neg (Nat.not_lt.mpr h)]; rfl

/-- The two rows of `parse_ack` are `parse_ack`, by whether a response was received (R210, R211). -/
theorem exec_parseAckRow (s : State) :
    exec (if s.ftBuf = [] then .parseAckBare else .parseAckSplit) s = .next (putRet .nothing (parseAck s)) :=
  exec_reactionOperation .ack s

theorem exec_parseAckBare {s : State} (h : s.ftBuf = []) :
    exec .parseAckBare s = .next (putRet .nothing (parseAckBare s)) := by
  have hexec := exec_parseAckRow s
  rwa [if_pos h, parseAck, if_pos h] at hexec

theorem exec_parseAckSplit {s : State} (h : s.ftBuf ≠ []) :
    exec .parseAckSplit s = .next (putRet .nothing (parseAckSplit s)) := by
  have hexec := exec_parseAckRow s
  rwa [if_neg h, parseAck, if_neg h] at hexec

/-- Settles O24: a bare acknowledgment is the dispatch of the transmitted code, and no dispatch moves the cursor. -/
theorem parseAckBareDispatchesTheSentCode : Obligations.ParseAckBareDispatchesTheSentCode :=
  fun s h => ⟨_, exec_parseAckBare h, exec_dispatch s.txCmd [] s, dispatchRsp_cursor s.txCmd [] s⟩

/-- Settles O25: the split is the dispatch from the advanced state, and no dispatch reads what `advance` returned
(`dispatchRsp_putRet`). -/
theorem parseAckSplitAdvancesThenDispatches : Obligations.ParseAckSplitAdvancesThenDispatches := by
  intro s n h hn
  refine ⟨putRet .nothing (advanceCursor s), putRet .nothing (parseAckSplit s), rfl, ?dispatched, exec_parseAckSplit h⟩
  case dispatched => rw [exec_dispatch, dispatchRsp_putRet, putRet_putRet, parseAckSplit, codeLength, hn]

/-! ## What a response leaves alone -/

/-- What a response may do to the requests that wait: answer one of the two commands, and ask for a refresh (R226, R227, R231). -/
structure RequestsAnswered (s t : State) : Prop where
  climate : t.activateClimate = true → s.activateClimate = true
  swing : t.activateSwingMode = true → s.activateSwingMode = true
  atMostOne : t.activateClimate = s.activateClimate ∨ t.activateSwingMode = s.activateSwingMode
  refresh : s.refreshRequested = true → t.refreshRequested = true

theorem requestsAnswered_of_eq {s t : State} (hc : t.activateClimate = s.activateClimate)
    (hs : t.activateSwingMode = s.activateSwingMode) (hr : t.refreshRequested = s.refreshRequested) :
    RequestsAnswered s t := ⟨hc.symm.trans, hs.symm.trans, .inl hc, hr.trans⟩

theorem runFamily_requestsAnswered (f : Family) (p : List Byte) (s : State) : RequestsAnswered s (runFamily f p s) := by
  cases f
  case echoClimate => exact ⟨nofun, id, .inr rfl, fun _ => rfl⟩
  case echoSwing => exact ⟨id, nofun, .inl rfl, fun _ => rfl⟩
  case fanMode =>
    simp only [runFamily, handleFanMode]
    split <;> exact requestsAnswered_of_eq rfl rfl rfl
  all_goals exact requestsAnswered_of_eq rfl rfl rfl

theorem dispatchRsp_requestsAnswered (code : Code) (p : List Byte) (s : State) :
    RequestsAnswered s (dispatchRsp code p s) := by
  unfold dispatchRsp
  split
  · exact runFamily_requestsAnswered _ p s
  · exact requestsAnswered_of_eq rfl rfl rfl
  · exact requestsAnswered_of_eq (by simp) (by simp) (by simp)

theorem parseAck_requestsAnswered (s : State) : RequestsAnswered s (parseAck s) := by
  unfold parseAck
  split
  · exact dispatchRsp_requestsAnswered _ _ s
  · have h := dispatchRsp_requestsAnswered (s.ftBuf.take (codeLength s)) (s.ftBuf.drop (codeLength s)) (advanceCursor s)
    unfold parseAckSplit
    rw [advanceCursor_eq] at h ⊢
    exact { h with }

/-- The cursor moves by at most one entry, and on a response only (R210 to R212). -/
theorem parseAck_cursor (s : State) :
    (parseAck s).cursor = s.cursor ∨
      (s.ftBuf ≠ [] ∧ s.cursor < s.pool.length ∧ (parseAck s).cursor = s.cursor + 1) := by
  by_cases hb : s.ftBuf = []
  · rw [parseAck, if_pos hb]
    exact .inl (dispatchRsp_cursor _ _ s)
  · have hcur : (parseAck s).cursor = (advanceCursor s).cursor := by
      rw [parseAck, if_neg hb, parseAckSplit, dispatchRsp_cursor]
    by_cases hlt : s.cursor < s.pool.length
    · exact .inr ⟨hb, hlt, by rw [hcur, advanceCursor, if_pos hlt]⟩
    · exact .inl (by rw [hcur, advanceCursor, if_neg hlt])

/-- Settles O56: the frame of `parse_ack`, what it remembers, the requests it may answer, and its cursor. -/
theorem parseAckNeverTouchesTheLink : Obligations.ParseAckNeverTouchesTheLink := by
  intro s
  have hm := StateElements.remembers_parseAck s
  have ha := parseAck_requestsAnswered s
  exact ⟨_, exec_parseAckRow s, parseAck_tx s, parseAck_rx s, parseAck_ftState s, parseAck_ftBuf s, parseAck_ftTLast s,
    parseAck_ftCool s, parseAck_pool s, parseAck_txCmd s, parseAck_pending s, parseAck_diagMode s, ha.climate, ha.swing,
    ha.atMostOne, ha.refresh, hm.supportRH, hm.supportRa, hm.supportRG, hm.basic, hm.swing, hm.compressor,
    parseAck_cursor s⟩

/-! ## The fan gate -/

theorem remembers_exec {i : Instr} {s t : State} (hi : isInit i = false) (h : exec i s = .next t) :
    StateElements.Remembers s t := by
  obtain ⟨v, u, he, rfl⟩ := StateElements.exec_answers h
  exact { StateElements.effect_remembers hi he with }

/-- A run that completes begins with an operation that does. -/
theorem runAll_cons {i : Instr} {run : List Instr} {s t : State} (h : runAll (i :: run) s = some t) :
    ∃ u, exec i s = .next u ∧ runAll run u = some t := by
  simp only [runAll] at h
  split at h
  · rename_i u hu; exact ⟨u, hu, h⟩
  · cases h
  · cases h

/-- A run without `initialize` forgets no flag, however long it is (10_state.md R43 I-i). -/
theorem remembers_runAll {run : List Instr} {s t : State} (hrun : run.all (fun i => !isInit i) = true)
    (h : runAll run s = some t) : StateElements.Remembers s t := by
  induction run generalizing s with
  | nil => cases h; exact .refl _
  | cons i run ih =>
    obtain ⟨u, hu, ht⟩ := runAll_cons h
    rw [List.all_cons, Bool.and_eq_true, Bool.not_eq_true'] at hrun
    obtain ⟨hi, hrest⟩ := hrun
    exact (remembers_exec hi hu).trans (ih hrest ht)

/-- An individual fan-mode response that decodes sets the gate (R218). -/
theorem supportRG_of_rspFanMode {s u : State} {b : Byte} {rest : List Byte} (hf : (s.cfg.fanOfByte b).isSome = true)
    (h : exec (.rspFanMode (b :: rest)) s = .next u) : u.supportRG = true := by
  obtain ⟨f, hf⟩ := Option.isSome_iff_exists.mp hf
  rw [exec_rspFanMode, handleFanMode_decoded rest hf] at h
  cases h; rfl

/-- Behind the gate the basic-state handler writes back the fan it read (R214). -/
theorem rspBasic_fan_of_supportRG {s u : State} {p : List Byte} (hg : s.supportRG = true)
    (h : exec (.rspBasic p) s = .next u) : u.active.fan = s.active.fan := by
  have hexec := exec_familyOperation .basic p s
  rw [familyOperation, h] at hexec
  cases hexec
  split
  · exact if_pos hg
  · rfl

/-- Settles O54: the first response sets the gate, the run keeps it, and the last response is behind it; no flag gates the
temperatures. -/
theorem fanGateHoldsForEver : Obligations.FanGateHoldsForEver := by
  refine ⟨fun s t u b rest p run hf hrun ht hu => ?gated, fun s t p0 p1 rest p run _ _ => ?combined⟩
  case gated =>
    obtain ⟨v, hv, ht⟩ := runAll_cons ht
    have hset : v.supportRG = true := supportRG_of_rspFanMode hf hv
    have hkept : t.supportRG = true := (remembers_runAll hrun ht).supportRG hset
    exact rspBasic_fan_of_supportRG hkept hu
  case combined => exact ⟨_, exec_familyOperation_of_le (f := .tempCombined) (by simp [familyMin]) t, rfl⟩

end Sys2Proof.Decoder
end

section
/-! PROOFS. The exceptions (60_exceptions.md): the cause of every exchange that a received byte ends with `Nak` or `Error`, and the
Session's reactions to `Error`, `Timeout` and `Busy`. -/

namespace Sys2Proof.Exceptions

open Sys2Proof.Machine Sys2Proof.Safety

/-! ## The cause behind a receive row -/

/-- The cause in the spec's list (60_exceptions.md R251) that a row of the receive state machine ends the exchange for; a data byte
has one where the buffer is full. -/
def rowCause (row : RxRow) (s : State) : Option Cause :=
  match row with
  | .qackNak => some .nakQuery
  | .cackNak => some .nakCommand
  | .qackOther | .cackOther => some .errAckByte
  | .qstxOther => some .errStxByte
  | .qetxData => if s.ftBuf.length < rxMax then none else some .errOverflow
  | .etxEmpty => some .errEmptyFrame
  | .etxBad => some .errChecksum
  | .qackAck | .cackAck | .qstxStx | .qstxAck | .etxGood | .notConsumed => none

/-- The spec's list of causes is by rows: what a byte raises is the cause of the row it selects. The list tests `NAK` before `ACK`,
the rows test `ACK` first; it joins the two bytes that `QueryStx` accepts, and it asks for the bytes that are not `ETX` first. -/
theorem causeOf_eq_rowCause (s : State) (b : Byte) : causeOf s b = rowCause (rxRow s b) s := by
  have hnak : b = nakByte → ¬ b = ackByte := fun h => h ▸ by decide
  cases hs : s.ftState
  case queryAck =>
    rw [Transport.rxRow_queryAck b hs, causeOf, hs]
    simp only [apply_ite_left rowCause]
    exact ite_ite_comm _ _ _ _ hnak
  case commandAck =>
    rw [Transport.rxRow_commandAck b hs, causeOf, hs]
    simp only [apply_ite_left rowCause]
    exact ite_ite_comm _ _ _ _ hnak
  case queryStx =>
    rw [Transport.rxRow_queryStx b hs, causeOf, hs]
    simp only [apply_ite_left rowCause]
    exact ite_or _ _ _ _
  case queryEtx =>
    rw [Transport.rxRow_queryEtx b hs, causeOf, hs]
    simp only [apply_ite_left rowCause, frameOk, decide_eq_true_eq, ne_eq, ite_not]
    rfl
  case idle | cooldown =>
    rw [Transport.rxRow_notReceiving b (by simp [hs]), causeOf, hs]
    rfl

/-- A row with a cause is one of the two ends of a failed exchange, and `complete` changes the link state and the interval alone
(40_transport.md R150). -/
theorem rxReturned_of_rowCause {row : RxRow} {s : State} {c : Cause} (b : Byte) (h : rowCause row s = some c) :
    rxReturned (runRx row b s) = { cooling s (causeCooldown s.cfg c) with ret := .result (causeResult c) } := by
  cases row
  case qetxData =>
    obtain ⟨hfull, rfl⟩ : ¬ s.ftBuf.length < rxMax ∧ Cause.errOverflow = c := by simpa [rowCause] using h
    rw [runRx, rxData, if_neg hfull]
    rfl
  case qackNak | cackNak | qackOther | cackOther | qstxOther | etxEmpty | etxBad => cases h; rfl
  all_goals cases h

/-- A row without a cause does not fail: the handler continues or the exchange ends in `Ack`. -/
theorem rxReturned_of_rowCause_none {row : RxRow} {s : State} (b : Byte) (h : rowCause row s = none) :
    (rxReturned (runRx row b s)).ret = .goOn ∨ (rxReturned (runRx row b s)).ret = .result .ack := by
  cases row
  case qetxData =>
    have hroom : s.ftBuf.length < rxMax := by simpa [rowCause] using h
    rw [runRx, rxData, if_pos hroom]
    exact .inl rfl
  case cackAck | etxGood => exact .inr rfl
  case qackAck | qstxStx | qstxAck | notConsumed => exact .inl rfl
  all_goals cases h

/-- Settles O59: what a byte raises is the cause of its row (`causeOf_eq_rowCause`); a row with a cause fails for it, and a row
without one does not fail. -/
theorem everyByteFailureHasItsCause : Obligations.EveryByteFailureHasItsCause := by
  intro s b
  rw [causeOf_eq_rowCause]
  have hexec : exec (.rxDispatch b) s = .next (rxReturned (runRx (rxRow s b) b s)) := rfl
  refine ⟨fun c hc => ?failed, fun hnone => ⟨_, hexec, rxReturned_of_rowCause_none b hnone⟩⟩
  case failed => rw [hexec, rxReturned_of_rowCause b hc]

/-! ## Reactions -/

/-- Settles O35: the three reactions are the writes of R255, the one report of R256 and no write at all (R257), by definition. -/
theorem reactionsToErrorTimeoutBusy : Obligations.ReactionsToErrorTimeoutBusy :=
  fun _ => ⟨rfl, rfl, rfl⟩

end Sys2Proof.Exceptions
end
